-- ==== Sys2Proof/Word.lean ====
section
/-! DEFINITION. The word type of the Z80-SCC block: every register, WR or RR, is 8 bits wide (R8, R23, R82). -/

namespace Sys2Proof

/-- One register value or one byte on the host's data bus (R23, R82). -/
abbrev Byte := BitVec 8

end Sys2Proof
end

