-- ==== Sys2Proof/Syntax.lean ====
section
/-! DEFINITION. The operations a host can issue (R6, R100-R104), one constructor per row of spec/opcode_table.json, the raw
words that spell them, and the reasons a raw word spells none. An operand that a rule writes as "v with v[5:3] = ..." is the
whole data byte here; `Instr.wellFormed` (WellFormed.lean) states the row's condition on it. -/

namespace Sys2Proof

/-- The two channels (R10). -/
inductive ChanId where
  | a
  | b
  deriving DecidableEq, Repr

/-- `other(A) = B` (R10). -/
def ChanId.other : ChanId → ChanId
  | .a => .b
  | .b => .a

/-- One raw word the host issues: a 16-bit operation word (R100) or a 20-bit bus access word (R101). -/
inductive HostWord where
  | op (w : BitVec 16)
  | bus (w : BitVec 20)
  deriving DecidableEq, Repr

/-- Why a raw word is invalid (R104), one constructor per condition. -/
inductive InvalidWord where
  /-- `op[13] = 1` -/
  | reservedBit13
  /-- class 01 with `op[7:0] ≠ 0` -/
  | readWithData
  /-- class 10 with signal s >= 7 -/
  | unknownSignal
  /-- class 10 with `op[7:1] ≠ 0` -/
  | eventReservedBits
  /-- class 10 with s <= 1 and `op[0] = 1` -/
  | clockEdgeWithLevel
  /-- class 11 with `op[12] ≠ 0` -/
  | controlWithChannel
  /-- class 11 with `op[7:0] ≠ 0` -/
  | controlWithData
  /-- class 11 with k >= 4 -/
  | unknownControl
  /-- bus word with e >= 9 -/
  | unknownEntry
  /-- bus word with `b[14] = 1` -/
  | reservedBit14
  /-- bus read with `b[7:0] ≠ 0` -/
  | busReadWithData
  deriving DecidableEq, Repr

/-- The operations of the block. `ch` is a channel, `v` a data byte, `l` a line level (true = 1), `o` a bus offset. -/
inductive Instr where
  /-- WR0.NULL: R200, null command -/
  | wr0Null (ch : ChanId) (v : Byte)
  /-- WR0.POINT_HIGH: R201, point high -/
  | wr0PointHigh (ch : ChanId) (v : Byte)
  /-- WR0.RESET_EXT_STATUS: R202, reset external/status interrupts -/
  | wr0ResetExtStatus (ch : ChanId) (v : Byte)
  /-- WR0.SEND_ABORT: R203, send abort -/
  | wr0SendAbort (ch : ChanId) (v : Byte)
  /-- WR0.ENABLE_INT_NEXT_RX: R204, enable interrupt on next receive character -/
  | wr0EnableIntNextRx (ch : ChanId) (v : Byte)
  /-- WR0.RESET_TX_INT: R205, reset transmit interrupt pending -/
  | wr0ResetTxInt (ch : ChanId) (v : Byte)
  /-- WR0.ERROR_RESET: R206, error reset -/
  | wr0ErrorReset (ch : ChanId) (v : Byte)
  /-- WR0.RESET_HIGHEST_IUS: R207, reset highest IUS -/
  | wr0ResetHighestIus (ch : ChanId) (v : Byte)
  /-- WR1: R213 -/
  | wr1 (ch : ChanId) (v : Byte)
  /-- WR2: R211 -/
  | wr2 (ch : ChanId) (v : Byte)
  /-- WR3: R214 -/
  | wr3 (ch : ChanId) (v : Byte)
  /-- WR4: R215 -/
  | wr4 (ch : ChanId) (v : Byte)
  /-- WR5: R217 -/
  | wr5 (ch : ChanId) (v : Byte)
  /-- WR6: R218 -/
  | wr6 (ch : ChanId) (v : Byte)
  /-- WR7: R212, WR7 or WR7' -/
  | wr7 (ch : ChanId) (v : Byte)
  /-- WR8: R219, transmit FIFO push -/
  | wr8 (ch : ChanId) (v : Byte)
  /-- WR9.NO_RESET: R216, no reset -/
  | wr9NoReset (ch : ChanId) (v : Byte)
  /-- WR9.RESET_B: R216, channel reset B -/
  | wr9ResetB (ch : ChanId) (v : Byte)
  /-- WR9.RESET_A: R216, channel reset A -/
  | wr9ResetA (ch : ChanId) (v : Byte)
  /-- WR9.HW_RESET: R216, force hardware reset -/
  | wr9HwReset (ch : ChanId) (v : Byte)
  /-- WR10: R220 -/
  | wr10 (ch : ChanId) (v : Byte)
  /-- WR11: R221 -/
  | wr11 (ch : ChanId) (v : Byte)
  /-- WR12: R222 -/
  | wr12 (ch : ChanId) (v : Byte)
  /-- WR13: R223 -/
  | wr13 (ch : ChanId) (v : Byte)
  /-- WR14.DPLL_NULL: R224, R225, DPLL command null -/
  | wr14DpllNull (ch : ChanId) (v : Byte)
  /-- WR14.DPLL_ENTER_SEARCH: R224, R225, DPLL command enter search mode -/
  | wr14DpllEnterSearch (ch : ChanId) (v : Byte)
  /-- WR14.DPLL_RESET_MISSING_CLOCK: R224, R225, DPLL command reset missing clock -/
  | wr14DpllResetMissingClock (ch : ChanId) (v : Byte)
  /-- WR14.DPLL_DISABLE: R224, R225, DPLL command disable DPLL -/
  | wr14DpllDisable (ch : ChanId) (v : Byte)
  /-- WR14.DPLL_SOURCE_BRG: R224, R225, DPLL command set source = BRG -/
  | wr14DpllSourceBrg (ch : ChanId) (v : Byte)
  /-- WR14.DPLL_SOURCE_RTXC: R224, R225, DPLL command set source = RTxC -/
  | wr14DpllSourceRtxc (ch : ChanId) (v : Byte)
  /-- WR14.DPLL_FM_MODE: R224, R225, DPLL command set FM mode -/
  | wr14DpllFmMode (ch : ChanId) (v : Byte)
  /-- WR14.DPLL_NRZI_MODE: R224, R225, DPLL command set NRZI mode -/
  | wr14DpllNrziMode (ch : ChanId) (v : Byte)
  /-- WR15: R226 -/
  | wr15 (ch : ChanId) (v : Byte)
  /-- RR0: R261 -/
  | rr0 (ch : ChanId)
  /-- RR1: R262 -/
  | rr1 (ch : ChanId)
  /-- RR2: R263 -/
  | rr2 (ch : ChanId)
  /-- RR3: R264 -/
  | rr3 (ch : ChanId)
  /-- RR4: R265 -/
  | rr4 (ch : ChanId)
  /-- RR5: R266 -/
  | rr5 (ch : ChanId)
  /-- RR6: R267 -/
  | rr6 (ch : ChanId)
  /-- RR7: R268 -/
  | rr7 (ch : ChanId)
  /-- RR8: R269 -/
  | rr8 (ch : ChanId)
  /-- RR9: R270 -/
  | rr9 (ch : ChanId)
  /-- RR10: R271 -/
  | rr10 (ch : ChanId)
  /-- RR11: R272 -/
  | rr11 (ch : ChanId)
  /-- RR12: R273 -/
  | rr12 (ch : ChanId)
  /-- RR13: R274 -/
  | rr13 (ch : ChanId)
  /-- RR14: R275 -/
  | rr14 (ch : ChanId)
  /-- RR15: R276 -/
  | rr15 (ch : ChanId)
  /-- TXC: R321, transmit clock edge -/
  | txc (ch : ChanId)
  /-- RXC: R326, receive clock edge -/
  | rxc (ch : ChanId)
  /-- RXD: R346, RxD pin level -/
  | rxd (ch : ChanId) (l : Bool)
  /-- CTS: R345, /CTS pin level -/
  | cts (ch : ChanId) (l : Bool)
  /-- DCD: R345, /DCD pin level -/
  | dcd (ch : ChanId) (l : Bool)
  /-- SYNC: R347, /SYNC pin level -/
  | sync (ch : ChanId) (l : Bool)
  /-- RI: R348, ring-indicator level -/
  | ri (ch : ChanId) (l : Bool)
  /-- IRQSTATE: R406 -/
  | irqState
  /-- IACK: R409 -/
  | irqAck
  /-- RETI: R411 -/
  | reti
  /-- RESET: R501 -/
  | reset
  /-- BUS.ZBUS.W: R156, Z-Bus write -/
  | busZbusW (o : BitVec 6) (v : Byte)
  /-- BUS.ZBUS.R: R156, Z-Bus read -/
  | busZbusR (o : BitVec 6)
  /-- BUS.CD_AB.W: R154 write -/
  | busCdAbW (o : BitVec 6) (v : Byte)
  /-- BUS.CD_AB.R: R154 read -/
  | busCdAbR (o : BitVec 6)
  /-- BUS.CD_BA.W: R155 write -/
  | busCdBaW (o : BitVec 6) (v : Byte)
  /-- BUS.CD_BA.R: R155 read -/
  | busCdBaR (o : BitVec 6)
  /-- BUS.BA_CD.W: R157 write -/
  | busBaCdW (o : BitVec 6) (v : Byte)
  /-- BUS.BA_CD.R: R157 read -/
  | busBaCdR (o : BitVec 6)
  /-- BUS.BA_CD_INV.W: R158 write -/
  | busBaCdInvW (o : BitVec 6) (v : Byte)
  /-- BUS.BA_CD_INV.R: R158 read -/
  | busBaCdInvR (o : BitVec 6)
  /-- BUS.CA.W: R159, channel A control write -/
  | busCaW (o : BitVec 6) (v : Byte)
  /-- BUS.CA.R: R159, channel A control read -/
  | busCaR (o : BitVec 6)
  /-- BUS.CB.W: R159, channel B control write -/
  | busCbW (o : BitVec 6) (v : Byte)
  /-- BUS.CB.R: R159, channel B control read -/
  | busCbR (o : BitVec 6)
  /-- BUS.DA.W: R159, channel A data write -/
  | busDaW (o : BitVec 6) (v : Byte)
  /-- BUS.DA.R: R159, channel A data read -/
  | busDaR (o : BitVec 6)
  /-- BUS.DB.W: R159, channel B data write -/
  | busDbW (o : BitVec 6) (v : Byte)
  /-- BUS.DB.R: R159, channel B data read -/
  | busDbR (o : BitVec 6)
  deriving DecidableEq, Repr

end Sys2Proof
end

