-- ==== Sys2Proof/WellFormed.lean ====
section
/-! DEFINITION. Which terms of `Instr` are instructions: a row whose data byte carries a sub-code (R110, R112, R113) holds that
row's code. Every other operand may take every value of its type (R81, R118). -/

namespace Sys2Proof

/-- The WR0 command field of a data byte, `v[5:3]` (R110). -/
def wr0CommandCode (v : Byte) : BitVec 3 := v.extractLsb' 3 3

/-- The WR9 reset field of a data byte, `v[7:6]` (R112). -/
def wr9ResetCode (v : Byte) : BitVec 2 := v.extractLsb' 6 2

/-- The WR14 DPLL field of a data byte, `v[7:5]` (R113). -/
def wr14DpllCode (v : Byte) : BitVec 3 := v.extractLsb' 5 3

/-- The row's condition on its data byte. -/
def Instr.wellFormed : Instr → Bool
  | .wr0Null _ v => wr0CommandCode v == 0b000#3
  | .wr0PointHigh _ v => wr0CommandCode v == 0b001#3
  | .wr0ResetExtStatus _ v => wr0CommandCode v == 0b010#3
  | .wr0SendAbort _ v => wr0CommandCode v == 0b011#3
  | .wr0EnableIntNextRx _ v => wr0CommandCode v == 0b100#3
  | .wr0ResetTxInt _ v => wr0CommandCode v == 0b101#3
  | .wr0ErrorReset _ v => wr0CommandCode v == 0b110#3
  | .wr0ResetHighestIus _ v => wr0CommandCode v == 0b111#3
  | .wr1 _ _ => true
  | .wr2 _ _ => true
  | .wr3 _ _ => true
  | .wr4 _ _ => true
  | .wr5 _ _ => true
  | .wr6 _ _ => true
  | .wr7 _ _ => true
  | .wr8 _ _ => true
  | .wr9NoReset _ v => wr9ResetCode v == 0b00#2
  | .wr9ResetB _ v => wr9ResetCode v == 0b01#2
  | .wr9ResetA _ v => wr9ResetCode v == 0b10#2
  | .wr9HwReset _ v => wr9ResetCode v == 0b11#2
  | .wr10 _ _ => true
  | .wr11 _ _ => true
  | .wr12 _ _ => true
  | .wr13 _ _ => true
  | .wr14DpllNull _ v => wr14DpllCode v == 0b000#3
  | .wr14DpllEnterSearch _ v => wr14DpllCode v == 0b001#3
  | .wr14DpllResetMissingClock _ v => wr14DpllCode v == 0b010#3
  | .wr14DpllDisable _ v => wr14DpllCode v == 0b011#3
  | .wr14DpllSourceBrg _ v => wr14DpllCode v == 0b100#3
  | .wr14DpllSourceRtxc _ v => wr14DpllCode v == 0b101#3
  | .wr14DpllFmMode _ v => wr14DpllCode v == 0b110#3
  | .wr14DpllNrziMode _ v => wr14DpllCode v == 0b111#3
  | .wr15 _ _ => true
  | .rr0 _ => true
  | .rr1 _ => true
  | .rr2 _ => true
  | .rr3 _ => true
  | .rr4 _ => true
  | .rr5 _ => true
  | .rr6 _ => true
  | .rr7 _ => true
  | .rr8 _ => true
  | .rr9 _ => true
  | .rr10 _ => true
  | .rr11 _ => true
  | .rr12 _ => true
  | .rr13 _ => true
  | .rr14 _ => true
  | .rr15 _ => true
  | .txc _ => true
  | .rxc _ => true
  | .rxd _ _ => true
  | .cts _ _ => true
  | .dcd _ _ => true
  | .sync _ _ => true
  | .ri _ _ => true
  | .irqState => true
  | .irqAck => true
  | .reti => true
  | .reset => true
  | .busZbusW _ _ => true
  | .busZbusR _ => true
  | .busCdAbW _ _ => true
  | .busCdAbR _ => true
  | .busCdBaW _ _ => true
  | .busCdBaR _ => true
  | .busBaCdW _ _ => true
  | .busBaCdR _ => true
  | .busBaCdInvW _ _ => true
  | .busBaCdInvR _ => true
  | .busCaW _ _ => true
  | .busCaR _ => true
  | .busCbW _ _ => true
  | .busCbR _ => true
  | .busDaW _ _ => true
  | .busDaR _ => true
  | .busDbW _ _ => true
  | .busDbR _ => true

end Sys2Proof
end

