-- ==== Sys2Proof/Decode.lean ====
section
/-! DEFINITION. Decoding of the operation word and of the bus access word (R100-R104), total, rejecting every invalid word by
name, and the encoder written from the same tables. The words are the spec's own (R6, R100): no memory holds them, so no byte
order enters; `decodeTableWord` reads a table row's bits as the low 16 or the low 20 bits of a number. -/

namespace Sys2Proof

/-! ### Fields -/

/-- The channel bit (R100): 0 = A, 1 = B. -/
def chanOfBit (b : Bool) : ChanId := if b then .b else .a

/-- The channel bit of a channel (R100). -/
def ChanId.bit : ChanId → BitVec 1
  | .a => 0b0#1
  | .b => 0b1#1

/-- The level bit of an event word (R100). -/
def levelBit (l : Bool) : BitVec 8 := if l then 0x01#8 else 0x00#8

/-- `op[15:14]`, the class (R100). -/
def opClass (w : BitVec 16) : BitVec 2 := w.extractLsb' 14 2
/-- `op[13]` (R100, R104). -/
def opReserved (w : BitVec 16) : Bool := w.getLsbD 13
/-- `op[12]`, the channel (R100). -/
def opChan (w : BitVec 16) : Bool := w.getLsbD 12
/-- `op[11:8]`: register index n, signal s or controller operation k (R100). -/
def opIndex (w : BitVec 16) : BitVec 4 := w.extractLsb' 8 4
/-- `op[7:0]` (R100). -/
def opData (w : BitVec 16) : Byte := w.extractLsb' 0 8

/-- `b[19:16]`, the entry point id (R101). -/
def busEntry (w : BitVec 20) : BitVec 4 := w.extractLsb' 16 4
/-- `b[15]`, the direction: 1 is a read (R101). -/
def busIsRead (w : BitVec 20) : Bool := w.getLsbD 15
/-- `b[14]` (R101, R104). -/
def busReserved (w : BitVec 20) : Bool := w.getLsbD 14
/-- `b[13:8]`, the offset (R101). -/
def busOffset (w : BitVec 20) : BitVec 6 := w.extractLsb' 8 6
/-- `b[7:0]` (R101). -/
def busData (w : BitVec 20) : Byte := w.extractLsb' 0 8

/-! ### Decoding -/

/-- A write of register 0: the eight WR0 commands (R110). -/
def decodeWr0 (ch : ChanId) (v : Byte) : Instr :=
  match (wr0CommandCode v).toNat with
  | 0 => .wr0Null ch v
  | 1 => .wr0PointHigh ch v
  | 2 => .wr0ResetExtStatus ch v
  | 3 => .wr0SendAbort ch v
  | 4 => .wr0EnableIntNextRx ch v
  | 5 => .wr0ResetTxInt ch v
  | 6 => .wr0ErrorReset ch v
  | _ => .wr0ResetHighestIus ch v

/-- A write of register 9: the four WR9 reset codes (R112). -/
def decodeWr9 (ch : ChanId) (v : Byte) : Instr :=
  match (wr9ResetCode v).toNat with
  | 0 => .wr9NoReset ch v
  | 1 => .wr9ResetB ch v
  | 2 => .wr9ResetA ch v
  | _ => .wr9HwReset ch v

/-- A write of register 14: the eight DPLL commands (R113). -/
def decodeWr14 (ch : ChanId) (v : Byte) : Instr :=
  match (wr14DpllCode v).toNat with
  | 0 => .wr14DpllNull ch v
  | 1 => .wr14DpllEnterSearch ch v
  | 2 => .wr14DpllResetMissingClock ch v
  | 3 => .wr14DpllDisable ch v
  | 4 => .wr14DpllSourceBrg ch v
  | 5 => .wr14DpllSourceRtxc ch v
  | 6 => .wr14DpllFmMode ch v
  | _ => .wr14DpllNrziMode ch v

/-- Class 00, `RegWrite(ch, n, v)` (R100). -/
def decodeWrite (ch : ChanId) (n : BitVec 4) (v : Byte) : Instr :=
  match n.toNat with
  | 0 => decodeWr0 ch v
  | 1 => .wr1 ch v
  | 2 => .wr2 ch v
  | 3 => .wr3 ch v
  | 4 => .wr4 ch v
  | 5 => .wr5 ch v
  | 6 => .wr6 ch v
  | 7 => .wr7 ch v
  | 8 => .wr8 ch v
  | 9 => decodeWr9 ch v
  | 10 => .wr10 ch v
  | 11 => .wr11 ch v
  | 12 => .wr12 ch v
  | 13 => .wr13 ch v
  | 14 => decodeWr14 ch v
  | _ => .wr15 ch v

/-- Class 01, `RegRead(ch, n)` (R100). -/
def decodeRead (ch : ChanId) (n : BitVec 4) : Instr :=
  match n.toNat with
  | 0 => .rr0 ch
  | 1 => .rr1 ch
  | 2 => .rr2 ch
  | 3 => .rr3 ch
  | 4 => .rr4 ch
  | 5 => .rr5 ch
  | 6 => .rr6 ch
  | 7 => .rr7 ch
  | 8 => .rr8 ch
  | 9 => .rr9 ch
  | 10 => .rr10 ch
  | 11 => .rr11 ch
  | 12 => .rr12 ch
  | 13 => .rr13 ch
  | 14 => .rr14 ch
  | _ => .rr15 ch

/-- Class 10, line and clock events (R100, R102, R104). -/
def decodeEvent (ch : ChanId) (s : BitVec 4) (v : Byte) : Except InvalidWord Instr :=
  if 7 ≤ s.toNat then .error .unknownSignal
  else if v.extractLsb' 1 7 != 0#7 then .error .eventReservedBits
  else if s.toNat ≤ 1 && v.getLsbD 0 then .error .clockEdgeWithLevel
  else
    match s.toNat with
    | 0 => .ok (.txc ch)
    | 1 => .ok (.rxc ch)
    | 2 => .ok (.rxd ch (v.getLsbD 0))
    | 3 => .ok (.cts ch (v.getLsbD 0))
    | 4 => .ok (.dcd ch (v.getLsbD 0))
    | 5 => .ok (.sync ch (v.getLsbD 0))
    | _ => .ok (.ri ch (v.getLsbD 0))

/-- Class 11, controller operations (R100, R103, R104). -/
def decodeControl (chBit : Bool) (k : BitVec 4) (v : Byte) : Except InvalidWord Instr :=
  if chBit then .error .controlWithChannel
  else if v != 0x00#8 then .error .controlWithData
  else
    match k.toNat with
    | 0 => .ok .irqState
    | 1 => .ok .irqAck
    | 2 => .ok .reti
    | 3 => .ok .reset
    | _ => .error .unknownControl

/-- The 16-bit operation word (R100, R104). -/
def decodeOp (w : BitVec 16) : Except InvalidWord Instr :=
  if opReserved w then .error .reservedBit13
  else
    match (opClass w).toNat with
    | 0 => .ok (decodeWrite (chanOfBit (opChan w)) (opIndex w) (opData w))
    | 1 => if opData w != 0x00#8 then .error .readWithData
           else .ok (decodeRead (chanOfBit (opChan w)) (opIndex w))
    | 2 => decodeEvent (chanOfBit (opChan w)) (opIndex w) (opData w)
    | _ => decodeControl (opChan w) (opIndex w) (opData w)

/-- A bus write through entry point `e` (R101). -/
def decodeBusWrite (e : BitVec 4) (o : BitVec 6) (v : Byte) : Except InvalidWord Instr :=
  match e.toNat with
  | 0 => .ok (.busZbusW o v)
  | 1 => .ok (.busCdAbW o v)
  | 2 => .ok (.busCdBaW o v)
  | 3 => .ok (.busBaCdW o v)
  | 4 => .ok (.busBaCdInvW o v)
  | 5 => .ok (.busCaW o v)
  | 6 => .ok (.busCbW o v)
  | 7 => .ok (.busDaW o v)
  | 8 => .ok (.busDbW o v)
  | _ => .error .unknownEntry

/-- A bus read through entry point `e` (R101). -/
def decodeBusRead (e : BitVec 4) (o : BitVec 6) : Except InvalidWord Instr :=
  match e.toNat with
  | 0 => .ok (.busZbusR o)
  | 1 => .ok (.busCdAbR o)
  | 2 => .ok (.busCdBaR o)
  | 3 => .ok (.busBaCdR o)
  | 4 => .ok (.busBaCdInvR o)
  | 5 => .ok (.busCaR o)
  | 6 => .ok (.busCbR o)
  | 7 => .ok (.busDaR o)
  | 8 => .ok (.busDbR o)
  | _ => .error .unknownEntry

/-- The 20-bit bus access word (R101, R104). -/
def decodeBus (w : BitVec 20) : Except InvalidWord Instr :=
  if busReserved w then .error .reservedBit14
  else if busIsRead w then
    if busData w != 0x00#8 then .error .busReadWithData
    else decodeBusRead (busEntry w) (busOffset w)
  else decodeBusWrite (busEntry w) (busOffset w) (busData w)

/-- Decoding is total: every raw word is one instruction or is refused by name (R104). -/
def decode : HostWord → Except InvalidWord Instr
  | .op w => decodeOp w
  | .bus w => decodeBus w

/-! ### Encoding -/

/-- The operation word of the given class, channel bit, index and low byte (R100). -/
def opWord (cls : BitVec 2) (ch : BitVec 1) (n : BitVec 4) (v : Byte) : HostWord :=
  .op (cls ++ 0b0#1 ++ ch ++ n ++ v)

/-- The bus word of the given entry point, direction, offset and data (R101). -/
def busWord (e : BitVec 4) (dir : BitVec 1) (o : BitVec 6) (v : Byte) : HostWord :=
  .bus (e ++ dir ++ 0b0#1 ++ o ++ v)

/-- `wr ch, n, v` (R100, R120). -/
def wrWord (ch : ChanId) (n : BitVec 4) (v : Byte) : HostWord := opWord 0b00#2 ch.bit n v
/-- `rd ch, n` (R100, R120). -/
def rdWord (ch : ChanId) (n : BitVec 4) : HostWord := opWord 0b01#2 ch.bit n 0x00#8
/-- A line or clock event (R100, R102, R120). -/
def eventWord (ch : ChanId) (s : BitVec 4) (v : Byte) : HostWord := opWord 0b10#2 ch.bit s v
/-- A controller operation (R100, R103, R120). -/
def controlWord (k : BitVec 4) : HostWord := opWord 0b11#2 0b0#1 k 0x00#8
/-- `bus.w e, o, v` (R101, R120). -/
def busWriteWord (e : BitVec 4) (o : BitVec 6) (v : Byte) : HostWord := busWord e 0b0#1 o v
/-- `bus.r e, o` (R101, R120). -/
def busReadWord (e : BitVec 4) (o : BitVec 6) : HostWord := busWord e 0b1#1 o 0x00#8

/-- The word of an instruction (R100-R103). -/
def encode : Instr → HostWord
  | .wr0Null ch v => wrWord ch 0#4 v
  | .wr0PointHigh ch v => wrWord ch 0#4 v
  | .wr0ResetExtStatus ch v => wrWord ch 0#4 v
  | .wr0SendAbort ch v => wrWord ch 0#4 v
  | .wr0EnableIntNextRx ch v => wrWord ch 0#4 v
  | .wr0ResetTxInt ch v => wrWord ch 0#4 v
  | .wr0ErrorReset ch v => wrWord ch 0#4 v
  | .wr0ResetHighestIus ch v => wrWord ch 0#4 v
  | .wr1 ch v => wrWord ch 1#4 v
  | .wr2 ch v => wrWord ch 2#4 v
  | .wr3 ch v => wrWord ch 3#4 v
  | .wr4 ch v => wrWord ch 4#4 v
  | .wr5 ch v => wrWord ch 5#4 v
  | .wr6 ch v => wrWord ch 6#4 v
  | .wr7 ch v => wrWord ch 7#4 v
  | .wr8 ch v => wrWord ch 8#4 v
  | .wr9NoReset ch v => wrWord ch 9#4 v
  | .wr9ResetB ch v => wrWord ch 9#4 v
  | .wr9ResetA ch v => wrWord ch 9#4 v
  | .wr9HwReset ch v => wrWord ch 9#4 v
  | .wr10 ch v => wrWord ch 10#4 v
  | .wr11 ch v => wrWord ch 11#4 v
  | .wr12 ch v => wrWord ch 12#4 v
  | .wr13 ch v => wrWord ch 13#4 v
  | .wr14DpllNull ch v => wrWord ch 14#4 v
  | .wr14DpllEnterSearch ch v => wrWord ch 14#4 v
  | .wr14DpllResetMissingClock ch v => wrWord ch 14#4 v
  | .wr14DpllDisable ch v => wrWord ch 14#4 v
  | .wr14DpllSourceBrg ch v => wrWord ch 14#4 v
  | .wr14DpllSourceRtxc ch v => wrWord ch 14#4 v
  | .wr14DpllFmMode ch v => wrWord ch 14#4 v
  | .wr14DpllNrziMode ch v => wrWord ch 14#4 v
  | .wr15 ch v => wrWord ch 15#4 v
  | .rr0 ch => rdWord ch 0#4
  | .rr1 ch => rdWord ch 1#4
  | .rr2 ch => rdWord ch 2#4
  | .rr3 ch => rdWord ch 3#4
  | .rr4 ch => rdWord ch 4#4
  | .rr5 ch => rdWord ch 5#4
  | .rr6 ch => rdWord ch 6#4
  | .rr7 ch => rdWord ch 7#4
  | .rr8 ch => rdWord ch 8#4
  | .rr9 ch => rdWord ch 9#4
  | .rr10 ch => rdWord ch 10#4
  | .rr11 ch => rdWord ch 11#4
  | .rr12 ch => rdWord ch 12#4
  | .rr13 ch => rdWord ch 13#4
  | .rr14 ch => rdWord ch 14#4
  | .rr15 ch => rdWord ch 15#4
  | .txc ch => eventWord ch 0#4 0x00#8
  | .rxc ch => eventWord ch 1#4 0x00#8
  | .rxd ch l => eventWord ch 2#4 (levelBit l)
  | .cts ch l => eventWord ch 3#4 (levelBit l)
  | .dcd ch l => eventWord ch 4#4 (levelBit l)
  | .sync ch l => eventWord ch 5#4 (levelBit l)
  | .ri ch l => eventWord ch 6#4 (levelBit l)
  | .irqState => controlWord 0#4
  | .irqAck => controlWord 1#4
  | .reti => controlWord 2#4
  | .reset => controlWord 3#4
  | .busZbusW o v => busWriteWord 0#4 o v
  | .busZbusR o => busReadWord 0#4 o
  | .busCdAbW o v => busWriteWord 1#4 o v
  | .busCdAbR o => busReadWord 1#4 o
  | .busCdBaW o v => busWriteWord 2#4 o v
  | .busCdBaR o => busReadWord 2#4 o
  | .busBaCdW o v => busWriteWord 3#4 o v
  | .busBaCdR o => busReadWord 3#4 o
  | .busBaCdInvW o v => busWriteWord 4#4 o v
  | .busBaCdInvR o => busReadWord 4#4 o
  | .busCaW o v => busWriteWord 5#4 o v
  | .busCaR o => busReadWord 5#4 o
  | .busCbW o v => busWriteWord 6#4 o v
  | .busCbR o => busReadWord 6#4 o
  | .busDaW o v => busWriteWord 7#4 o v
  | .busDaR o => busReadWord 7#4 o
  | .busDbW o v => busWriteWord 8#4 o v
  | .busDbR o => busReadWord 8#4 o

/-! ### The opcode table's numbering -/

/-- The raw word that a table row's bits spell: rows of up to 16 bits are operation words, longer rows bus words. A bus word
has 20 bits (R101); bits 23..20 of its three whole bytes are no bits of the word. Log entry 3. -/
def hostWordOf (nbits w : Nat) : HostWord :=
  if nbits ≤ 16 then .op (BitVec.ofNat 16 w) else .bus (BitVec.ofNat 20 w)

/-- The instruction the decoder reads from the bits `w` of a row of spec/opcode_table.json. -/
def decodeTableWord (nbits w : Nat) : Option Instr :=
  match decode (hostWordOf nbits w) with
  | .ok i => some i
  | .error _ => none

/-! ### Pseudo-operations of the assembly notation (R121) -/

/-- The WR0 byte that sets the Universal-Bus pointer to `n` (R115): `n` for n <= 7, `0x08 | (n - 8)` above. -/
def pointerByte (n : BitVec 4) : Byte :=
  if n.toNat ≤ 7 then n.setWidth 8 else 0x08#8 ||| (n.setWidth 8 - 0x08#8)

/-- The control-port write and read of a channel (R121: `ctl(A) = ca`, `ctl(B) = cb`). -/
def controlPortWrite : ChanId → Byte → Instr
  | .a, v => .busCaW 0#6 v
  | .b, v => .busCbW 0#6 v

/-- See `controlPortWrite`. -/
def controlPortRead : ChanId → Instr
  | .a => .busCaR 0#6
  | .b => .busCbR 0#6

/-- `uwr ch, n, v` (R121): the Universal-Bus register write. -/
def uwr (ch : ChanId) (n : BitVec 4) (v : Byte) : List Instr :=
  if n = 0#4 then [controlPortWrite ch v]
  else [controlPortWrite ch (pointerByte n), controlPortWrite ch v]

/-- `urd ch, n` (R121): the Universal-Bus register read. -/
def urd (ch : ChanId) (n : BitVec 4) : List Instr :=
  [controlPortWrite ch (pointerByte n), controlPortRead ch]

/-- `txbit ch` (R121) on a channel whose clock multiplier is `mult`: that many transmit clock edges. -/
def txbit (ch : ChanId) (mult : Nat) : List Instr := List.replicate mult (.txc ch)

/-- `rxbit ch, l` (R121) on a channel whose clock multiplier is `mult`. -/
def rxbit (ch : ChanId) (l : Bool) (mult : Nat) : List Instr := .rxd ch l :: List.replicate mult (.rxc ch)

end Sys2Proof
end

