-- ==== Sys2Proof/Config.lean ====
section
/-! DEFINITION. The construction-time parameters of the block (R2, R3, R7, R47): fixed for the life of the chip, carried in
`State` so that every statement about the machine holds for every value of them. The block leaves no value free after a
reset, so there is no opaque constant here: the one draw the spec names, `power_on_draw`, is `PowerOnDraw` below. -/

namespace Sys2Proof

/-- The chip sub-type `variant` (R2). -/
inductive Variant where
  | nmos
  | cmos
  | escc
  | emscc
  deriving DecidableEq, Repr

/-- The bus family `bus` (R2): Z-Bus or Universal-Bus. -/
inductive BusFamily where
  | zBus
  | uBus
  deriving DecidableEq, Repr

/-- The parameters of R7 that a model takes as arguments. Frequencies are whole numbers of hertz. -/
structure Config where
  /-- chip sub-type (R2) -/
  variant : Variant
  /-- bus family (R2) -/
  bus : BusFamily
  /-- frequency of the main clock PCLK (R7) -/
  pclkHz : Nat
  /-- frequency on channel A's RTxC pin (R7) -/
  rtxcHzA : Nat
  /-- frequency on channel B's RTxC pin (R7) -/
  rtxcHzB : Nat
  /-- extra divider of the baud-rate formula (R7, R340): 1 in the source, 2 on the real chip -/
  brgPrescale : Nat
  /-- bit order of the status code in status-high vectors (R7, R414): false in the source -/
  statusHighReversed : Bool
  deriving DecidableEq, Repr

/-- `isEscc` (R3): the two variants with deep FIFOs, extended read, WR7' and the software interrupt acknowledge. -/
def Config.isEscc (c : Config) : Bool :=
  match c.variant with
  | .nmos | .cmos => false
  | .escc | .emscc => true

/-- `isZBus` (R3). -/
def Config.isZBus (c : Config) : Bool :=
  match c.bus with
  | .zBus => true
  | .uBus => false

/-- R7: the three frequencies and the prescale are positive. -/
def Config.positive (c : Config) : Bool :=
  decide (0 < c.pclkHz) && decide (0 < c.rtxcHzA) && decide (0 < c.rtxcHzB) && decide (0 < c.brgPrescale)

/-- The configuration `State.reset` carries: the default of the spec's test vectors (95_test_vectors.md section 0), but for
the RTxC frequencies, which R7 wants positive. DESIGN CHOICE, log entry 1. -/
def Config.default : Config where
  variant := .nmos
  bus := .uBus
  pclkHz := 3686400
  rtxcHzA := 3686400
  rtxcHzB := 3686400
  brgPrescale := 1
  statusHighReversed := false

/-- The part of `power_on_draw` (R7, R504) that concerns one channel. A field holds a whole register; the bits the reset
table fixes are overwritten by construction. -/
structure ChannelDraw where
  wr1 : Byte
  wr3 : Byte
  wr4 : Byte
  wr5 : Byte
  wr6 : Byte
  wr7 : Byte
  wr12 : Byte
  wr13 : Byte
  syncHunt : Bool
  deriving DecidableEq, Repr

/-- `power_on_draw` (R7, R504): the values of the bits the reset table leaves open at the first reset. -/
structure PowerOnDraw where
  wr2 : Byte
  wr9 : Byte
  a : ChannelDraw
  b : ChannelDraw
  deriving DecidableEq, Repr

/-- The draw that makes every drawn bit of a channel 0. -/
def ChannelDraw.zero : ChannelDraw where
  wr1 := 0
  wr3 := 0
  wr4 := 0
  wr5 := 0
  wr6 := 0
  wr7 := 0
  wr12 := 0
  wr13 := 0
  syncHunt := false

/-- The draw that makes every drawn bit 0 (the default of 95_test_vectors.md section 0). DESIGN CHOICE, log entry 2. -/
def PowerOnDraw.zero : PowerOnDraw where
  wr2 := 0
  wr9 := 0
  a := ChannelDraw.zero
  b := ChannelDraw.zero

end Sys2Proof
end

