-- ==== Sys2Proof/Machine/State.lean ====
section
/-! DEFINITION. The state of the block as plain data (R20-R22, R42-R47), the reasons a step can stop, and the state after
construction (R504). The block has no memory and no program counter (R6, R80): there is no memory field. Two fields are the
model's own, not the chip's: `pending`, the operations the host has issued and the block has not yet carried out (R13, R88),
and `response`, what the last operation returned to the host (log entries 4 and 5). -/

namespace Sys2Proof.Machine

/-- The status code source of an interrupt slot, `src : 0..3` (R21, R117). -/
inductive Source where
  /-- 0, transmit buffer empty -/
  | txEmpty
  /-- 1, external/status change -/
  | extStatus
  /-- 2, receive character available -/
  | rxAvailable
  /-- 3, special receive condition -/
  | special
  deriving DecidableEq, Repr

/-- The interrupt types `trigger` takes (R401). -/
inductive IntType where
  | rx
  | special
  | tx
  | ext
  deriving DecidableEq, Repr

/-- The three conditions a channel's slots stand for; `clear` takes one of them (R401, R402). -/
inductive Condition where
  | rx
  | tx
  | ext
  deriving DecidableEq, Repr

/-- The six interrupt slots, 0 to 5 in this order, highest priority first (R402). -/
inductive SlotId where
  | aRx
  | aTx
  | aExt
  | bRx
  | bTx
  | bExt
  deriving DecidableEq, Repr

/-- One interrupt slot (R21): pending, in service, source. -/
structure Slot where
  ip : Bool
  ius : Bool
  src : Source
  deriving DecidableEq, Repr

/-- `slot[0..5]` (R21). -/
structure Slots where
  aRx : Slot
  aTx : Slot
  aExt : Slot
  bRx : Slot
  bTx : Slot
  bExt : Slot
  deriving DecidableEq, Repr

/-- The Z-Bus addressing mode `zshift` (R43). -/
inductive ShiftMode where
  | left
  | right
  deriving DecidableEq, Repr

/-- The controller record `ctl` (R21) less the parameters, which are `State.cfg`. -/
structure Controller where
  /-- WR2, the interrupt vector (R32) -/
  wr2 : Byte
  /-- WR9, master interrupt control; bits 7..6 always 0 (R33) -/
  wr9 : Byte
  slots : Slots
  /-- the RR3 bitmap (R40) -/
  ipBits : BitVec 6
  /-- the Universal-Bus register pointer (R42) -/
  ptr : BitVec 4
  /-- the Z-Bus addressing mode (R43) -/
  zshift : ShiftMode
  deriving DecidableEq, Repr

/-- One receive FIFO entry: data and its error byte in the RR1 layout (R22, R39). -/
structure RxEntry where
  data : Byte
  err : Byte
  deriving DecidableEq, Repr

/-- The receive assembler `rxs` (R30). -/
inductive RxState where
  | idle
  /-- `k` data bits received, `acc` their value -/
  | data (k : Nat) (acc : Byte)
  /-- all data bits received, parity bit next -/
  | parity (acc : Byte)
  /-- stop bit next; `perr` the parity verdict -/
  | stop (acc : Byte) (perr : Bool)
  deriving DecidableEq, Repr

/-- A baud rate: stopped, or the exact frequency num/den (R31). -/
inductive Rate where
  | stopped
  | hz (num den : Nat)
  deriving DecidableEq, Repr

/-- One channel record `ctl.ch[A]` or `ctl.ch[B]` (R22). Line and pin levels are electrical: true is 1. -/
structure Channel where
  wr1 : Byte
  wr3 : Byte
  wr4 : Byte
  wr5 : Byte
  wr6 : Byte
  wr7 : Byte
  /-- WR7'; 0 on the variants that have none (R22, R29) -/
  wr7p : Byte
  wr10 : Byte
  wr11 : Byte
  wr12 : Byte
  wr13 : Byte
  wr14 : Byte
  wr15 : Byte
  /-- the receive FIFO, head first (R301) -/
  rxq : List RxEntry
  rxLocked : Bool
  /-- the transmit FIFO, head first (R301) -/
  txq : List Byte
  /-- the transmit shift register: bits still to send, head first; empty = idle -/
  tsr : List Bool
  rxs : RxState
  /-- divisor counters, 0..63 -/
  txDiv : Nat
  rxDiv : Nat
  /-- RR0.D4 (R38) -/
  syncHunt : Bool
  /-- RR0.D6 (R38) -/
  txUnderrun : Bool
  /-- RR1.D0 (R39) -/
  allSent : Bool
  /-- RR1.D3..D1 (R39) -/
  residue : BitVec 3
  /-- RR1.D7..D4 (R39) -/
  errBits : BitVec 4
  /-- the external/status latch and its RR0 snapshot -/
  extLatched : Bool
  extSnap : Byte
  rxFirstArmed : Bool
  txIntDisarmed : Bool
  /-- the TxD output level -/
  txd : Bool
  /-- RTS asserted; the /RTS pin is its inverse (R46) -/
  rtsOn : Bool
  rtsReleasePending : Bool
  rateApplied : Rate
  ratePending : Rate
  delayedChange : Bool
  /-- the input pin levels -/
  ctsPin : Bool
  dcdPin : Bool
  syncPin : Bool
  rxdPin : Bool
  riPin : Bool
  deriving DecidableEq, Repr

/-- What an operation returns to the host. -/
inductive Response where
  /-- the operation returns nothing (every write, every line event, RETI and RESET) -/
  | nothing
  /-- a read returns a byte (R80, R151) -/
  | byte (v : Byte)
  /-- `irqState()` returns int and blocksLower (R406) -/
  | irqStatus (int blocksLower : Bool)
  /-- `irqAck()` returns a vector byte, or `none`, the "no interrupt" sentinel (R409) -/
  | vector (v : Option Byte)
  deriving DecidableEq, Repr

/-- Why the block faults: there is no reason. No operation raises an exception, traps, halts or stops the block (R400), so
the type has no constructor and no step ends in a fault. -/
inductive Fault
  deriving DecidableEq, Repr

/-- Why a step is refused. -/
inductive Refusal where
  /-- Raised by an arm of `exec` whose instruction has no meaning yet. Safe. -/
  | notModelled (mnemonic : String)
  /-- Raised by `step` when the next issued word spells no operation (R104). Safe: the spec says a model refuses it. -/
  | invalidWord (why : InvalidWord)
  /-- Raised by TXC and RXC on a channel in a synchronous mode, `wr4[3:2] = 00` (R119, R321, R326). Safe: the spec says the
  bit step is refused. -/
  | synchronousMode (ch : ChanId)
  deriving DecidableEq, Repr

/-- The state of the block, with the host's issued operations and the last response. -/
structure State where
  /-- the construction-time parameters, never written (R2, R47) -/
  cfg : Config
  ctl : Controller
  chA : Channel
  chB : Channel
  /-- operations the host has issued, oldest first (model's own field, log entry 4) -/
  pending : List HostWord
  /-- what the last operation returned (model's own field, log entry 5) -/
  response : Response
  deriving DecidableEq, Repr

/-- An idle slot (R44). -/
def Slot.idle : Slot where
  ip := false
  ius := false
  src := .txEmpty

/-- All six slots idle (R44). -/
def Slots.idle : Slots where
  aRx := Slot.idle
  aTx := Slot.idle
  aExt := Slot.idle
  bRx := Slot.idle
  bTx := Slot.idle
  bExt := Slot.idle

/-- A channel right after construction (R504): the hardware-reset values of R25-R39 and R45 over the drawn bits, every input
pin at 1. The rate is `stopped` because WR14.D0 is 0 (R31). WR7' does not exist on NMOS and CMOS and holds 0 there (R22). -/
def Channel.construct (cfg : Config) (d : ChannelDraw) : Channel where
  wr1 := d.wr1 &&& 0x24#8
  wr3 := d.wr3 &&& 0xFE#8
  wr4 := d.wr4 ||| 0x04#8
  wr5 := d.wr5 &&& 0x61#8
  wr6 := d.wr6
  wr7 := d.wr7
  wr7p := if cfg.isEscc then 0x20#8 else 0x00#8
  wr10 := 0x00#8
  wr11 := 0x08#8
  wr12 := d.wr12
  wr13 := d.wr13
  wr14 := 0x30#8
  wr15 := 0xF8#8
  rxq := []
  rxLocked := false
  txq := []
  tsr := []
  rxs := .idle
  txDiv := 0
  rxDiv := 0
  syncHunt := d.syncHunt
  txUnderrun := true
  allSent := true
  residue := 0b011#3
  errBits := 0#4
  extLatched := false
  extSnap := 0x00#8
  rxFirstArmed := true
  txIntDisarmed := false
  txd := true
  rtsOn := false
  rtsReleasePending := false
  rateApplied := .stopped
  ratePending := .stopped
  delayedChange := false
  ctsPin := true
  dcdPin := true
  syncPin := true
  rxdPin := true
  riPin := true

/-- The controller right after construction (R504, R33, R42-R44). -/
def Controller.construct (d : PowerOnDraw) : Controller where
  wr2 := d.wr2
  wr9 := d.wr9 &&& 0x03#8
  slots := Slots.idle
  ipBits := 0#6
  ptr := 0#4
  zshift := .left

/-- The block right after construction with the given parameters and draw (R504): nothing issued, nothing returned yet. -/
def State.construct (cfg : Config) (d : PowerOnDraw) : State where
  cfg := cfg
  ctl := Controller.construct d
  chA := Channel.construct cfg d.a
  chB := Channel.construct cfg d.b
  pending := []
  response := .nothing

/-- The machine right after reset: construction with the default parameters and the all-zero draw (log entries 1 and 2). -/
def State.reset : State := State.construct Config.default PowerOnDraw.zero

end Sys2Proof.Machine
end

