-- ==== Sys2Proof/Machine/Operands.lean ====
section
/-! DEFINITION. Field decodes of the registers (R24-R37, R116), the parameters derived from the configuration (R7), the slot
and status-code maps (R402, R117), and the address decode of the bus entry points (R154-R159). -/

namespace Sys2Proof.Machine

/-! ### Derived parameters (R7) -/

/-- `NRX`, the receive FIFO capacity. -/
def nrx (cfg : Config) : Nat := if cfg.isEscc then 8 else 3

/-- `NTX`, the transmit FIFO capacity. -/
def ntx (cfg : Config) : Nat := if cfg.isEscc then 4 else 1

/-- `rtxc_hz[ch]`. -/
def rtxcHz (cfg : Config) : ChanId → Nat
  | .a => cfg.rtxcHzA
  | .b => cfg.rtxcHzB

/-! ### WR1 (R25) -/

/-- D0, external/status interrupt enable. -/
def extIntEnable (wr1 : Byte) : Bool := wr1.getLsbD 0
/-- D1, transmit interrupt enable. -/
def txIntEnable (wr1 : Byte) : Bool := wr1.getLsbD 1
/-- D2, parity is special condition. -/
def parityIsSpecial (wr1 : Byte) : Bool := wr1.getLsbD 2
/-- D4..D3, receive interrupt mode (R116). -/
def rxMode (wr1 : Byte) : BitVec 2 := wr1.extractLsb' 3 2
/-- D5, W/REQ on receive (1) or transmit (0). -/
def wreqOnReceive (wr1 : Byte) : Bool := wr1.getLsbD 5
/-- D6, W/REQ function: DMA request (1) or wait (0). -/
def wreqIsRequest (wr1 : Byte) : Bool := wr1.getLsbD 6
/-- D7, W/REQ enable. -/
def wreqEnable (wr1 : Byte) : Bool := wr1.getLsbD 7

/-- Receive interrupt mode 00, disabled (R25). -/
def rxModeDisabled : BitVec 2 := 0b00#2
/-- Receive interrupt mode 01, on first character or special condition (R25). -/
def rxModeFirst : BitVec 2 := 0b01#2
/-- Receive interrupt mode 10, on all characters or special condition (R25). -/
def rxModeAll : BitVec 2 := 0b10#2

/-! ### WR3 (R26) -/

/-- D0, receiver enable. -/
def rxEnable (wr3 : Byte) : Bool := wr3.getLsbD 0
/-- D4, enter hunt mode (command bit). -/
def enterHunt (wr3 : Byte) : Bool := wr3.getLsbD 4
/-- D5, auto enables. -/
def autoEnables (wr3 : Byte) : Bool := wr3.getLsbD 5

/-- The word-length codes of WR3 and WR5 (R116): 00 = 5, 01 = 7, 10 = 6, 11 = 8. -/
def wordLength (code : BitVec 2) : Nat :=
  match code.toNat with
  | 0 => 5
  | 1 => 7
  | 2 => 6
  | _ => 8

/-- `rxBits(wr3)` (R116). -/
def rxBits (wr3 : Byte) : Nat := wordLength (wr3.extractLsb' 6 2)

/-! ### WR4 (R27) -/

/-- D0, parity enable (R116). -/
def parityOn (wr4 : Byte) : Bool := wr4.getLsbD 0
/-- D1, parity even (1) or odd (0) (R116). -/
def parityEven (wr4 : Byte) : Bool := wr4.getLsbD 1
/-- D3..D2, the stop-bit code (R27). -/
def stopCode (wr4 : Byte) : BitVec 2 := wr4.extractLsb' 2 2
/-- Stop-bit code 00: synchronous modes enabled (R27, R119). -/
def isSynchronous (wr4 : Byte) : Bool := stopCode wr4 == 0b00#2
/-- Stop-bit code 01: one stop bit (R27). -/
def isOneStopBit (wr4 : Byte) : Bool := stopCode wr4 == 0b01#2

/-- `mult(wr4)`, the clock mode of D7..D6 (R116): 00 x1, 01 x16, 10 x32, 11 x64. -/
def mult (wr4 : Byte) : Nat :=
  match (wr4.extractLsb' 6 2).toNat with
  | 0 => 1
  | 1 => 16
  | 2 => 32
  | _ => 64

/-! ### WR5 (R28) -/

/-- D1, RTS. -/
def rts (wr5 : Byte) : Bool := wr5.getLsbD 1
/-- D3, transmitter enable. -/
def txEnable (wr5 : Byte) : Bool := wr5.getLsbD 3
/-- D4, send break. -/
def sendBreak (wr5 : Byte) : Bool := wr5.getLsbD 4
/-- D7, DTR. -/
def dtr (wr5 : Byte) : Bool := wr5.getLsbD 7
/-- `txBits(wr5)` (R116). -/
def txBits (wr5 : Byte) : Nat := wordLength (wr5.extractLsb' 5 2)

/-! ### WR7', WR9, WR14, WR15 (R29, R33, R36, R37) -/

/-- WR7' D5, interrupt only when the transmit FIFO is completely empty. -/
def txFifoEmptyLevel (wr7p : Byte) : Bool := wr7p.getLsbD 5
/-- WR7' D6, extended read enable. -/
def extendedReadBit (wr7p : Byte) : Bool := wr7p.getLsbD 6
/-- WR9 D0, VIS, vector includes status. -/
def vis (wr9 : Byte) : Bool := wr9.getLsbD 0
/-- WR9 D1, NV, no vector. -/
def nv (wr9 : Byte) : Bool := wr9.getLsbD 1
/-- WR9 D2, DLC, disable lower chain. -/
def dlc (wr9 : Byte) : Bool := wr9.getLsbD 2
/-- WR9 D3, MIE, master interrupt enable. -/
def mie (wr9 : Byte) : Bool := wr9.getLsbD 3
/-- WR9 D4, SHSL, status high. -/
def shsl (wr9 : Byte) : Bool := wr9.getLsbD 4
/-- WR9 D5, software interrupt acknowledge enable. -/
def softIack (wr9 : Byte) : Bool := wr9.getLsbD 5
/-- WR14 D0, BRG enable. -/
def brgEnable (wr14 : Byte) : Bool := wr14.getLsbD 0
/-- WR14 D1, BRG source: PCLK (1) or the RTxC pin (0). -/
def brgFromPclk (wr14 : Byte) : Bool := wr14.getLsbD 1
/-- WR15 D0, WR7' access enable. -/
def wr7pAccess (wr15 : Byte) : Bool := wr15.getLsbD 0

/-- `TC = wr13 * 256 + wr12` (R36, R83). -/
def timeConstant (c : Channel) : Nat := c.wr13.toNat * 256 + c.wr12.toNat

/-- `ext`, extended read in force on a channel (R162). -/
def extendedRead (cfg : Config) (c : Channel) : Bool := cfg.isEscc && extendedReadBit c.wr7p

/-- `ctsOk(ch)` (R310): under auto enables a deasserted /CTS pin holds the transmitter. -/
def ctsOk (c : Channel) : Bool := !(autoEnables c.wr3 && c.ctsPin)

/-- The 8-bit value of a Boolean, `zext` (R8). -/
def zext (b : Bool) : Byte := if b then 0x01#8 else 0x00#8

/-! ### WR0 (R24, R111, R114) -/

/-- The CRC reset code `v[7:6]` (R111). -/
def wr0CrcCode (v : Byte) : BitVec 2 := v.extractLsb' 6 2
/-- The Universal-Bus pointer bits `v[2:0]` (R114). -/
def wr0PointerBits (v : Byte) : BitVec 3 := v.extractLsb' 0 3
/-- The Z-Bus addressing-mode bits `v[1:0]` (R114). -/
def wr0ShiftBits (v : Byte) : BitVec 2 := v.extractLsb' 0 2

/-! ### Slots and status codes (R402, R117) -/

/-- The slot condition an interrupt type uses: the special condition shares the receive slot (R402). -/
def IntType.condition : IntType → Condition
  | .rx | .special => .rx
  | .tx => .tx
  | .ext => .ext

/-- The `src` a trigger of this type records (R404). -/
def IntType.source : IntType → Source
  | .tx => .txEmpty
  | .ext => .extStatus
  | .rx => .rxAvailable
  | .special => .special

/-- `slotOf` (R402). -/
def slotOf : ChanId → Condition → SlotId
  | .a, .rx => .aRx
  | .a, .tx => .aTx
  | .a, .ext => .aExt
  | .b, .rx => .bRx
  | .b, .tx => .bTx
  | .b, .ext => .bExt

/-- The slot number 0..5 (R402). -/
def SlotId.index : SlotId → Nat
  | .aRx => 0
  | .aTx => 1
  | .aExt => 2
  | .bRx => 3
  | .bTx => 4
  | .bExt => 5

/-- `chanOf(i) = A if i < 3 else B` (R263, R409). -/
def SlotId.chan (i : SlotId) : ChanId := if i.index < 3 then .a else .b

/-- The slots in priority order, highest first (R402). -/
def SlotId.all : List SlotId := [.aRx, .aTx, .aExt, .bRx, .bTx, .bExt]

/-- The `ipBits` bit of slot i: bit `5 - i` alone set (R402). -/
def SlotId.mask (i : SlotId) : BitVec 6 := 1#6 <<< (5 - i.index)

/-- The two status-code bits of a source (R117). -/
def Source.code : Source → BitVec 2
  | .txEmpty => 0b00#2
  | .extStatus => 0b01#2
  | .rxAvailable => 0b10#2
  | .special => 0b11#2

/-! ### Bus address decode (R154-R159) -/

/-- What a Universal-Bus access resolves to (R150): the control or the data port of a channel. -/
inductive BusTarget where
  | control (ch : ChanId)
  | data (ch : ChanId)
  deriving DecidableEq, Repr

/-- `cd_ab` (R154): `o[1]` is C/D (1 data), `o[0]` the channel (0 A, 1 B). -/
def cdAbTarget (o : BitVec 6) : BusTarget :=
  let ch : ChanId := if o.getLsbD 0 then .b else .a
  if o.getLsbD 1 then .data ch else .control ch

/-- `cd_ba` (R155): `o[1]` is C/D (1 data), `o[0]` the A/B select (1 A). -/
def cdBaTarget (o : BitVec 6) : BusTarget :=
  let ch : ChanId := if o.getLsbD 0 then .a else .b
  if o.getLsbD 1 then .data ch else .control ch

/-- `ba_cd` (R157): `o[1]` is the A/B select (1 A), `o[0]` C/D (1 data). -/
def baCdTarget (o : BitVec 6) : BusTarget :=
  let ch : ChanId := if o.getLsbD 1 then .a else .b
  if o.getLsbD 0 then .data ch else .control ch

/-- `ba_cd_inv` (R158): `o[1] = 1` selects B, `o[0] = 1` selects control. -/
def baCdInvTarget (o : BitVec 6) : BusTarget :=
  let ch : ChanId := if o.getLsbD 1 then .b else .a
  if o.getLsbD 0 then .control ch else .data ch

/-- `zbus`, the channel (R156): `o[5]` in shift-left mode, `o[4]` in shift-right mode; 1 is A. -/
def zbusChan (m : ShiftMode) (o : BitVec 6) : ChanId :=
  match m with
  | .left => if o.getLsbD 5 then .a else .b
  | .right => if o.getLsbD 4 then .a else .b

/-- `zbus`, the register index (R156): `o[4:1]` in shift-left mode, `o[3:0]` in shift-right mode. -/
def zbusIndex (m : ShiftMode) (o : BitVec 6) : BitVec 4 :=
  match m with
  | .left => o.extractLsb' 1 4
  | .right => o.extractLsb' 0 4

end Sys2Proof.Machine
end

