-- ==== Sys2Proof/Machine/Flags.lean ====
section
/-! DEFINITION. The status bytes and condition bits the block computes: RR0 (R260, R261), RR1 (R262), the special-condition
mask (R300), parity (R312, R325) and the vector's status code (R117, R414). -/

namespace Sys2Proof.Machine

/-- `liveRR0(ch)` (R260). D1 zero count and D7 break/abort are never set; a low /DCD or /CTS pin reads as 1. -/
def liveRR0 (cfg : Config) (c : Channel) : Byte :=
  (zext (decide (0 < c.rxq.length)) <<< 0)
    ||| (zext (decide (c.txq.length < ntx cfg)) <<< 2)
    ||| (zext (!c.dcdPin) <<< 3)
    ||| (zext c.syncHunt <<< 4)
    ||| (zext (!c.ctsPin) <<< 5)
    ||| (zext c.txUnderrun <<< 6)

/-- The value of an RR0 read (R261): while the latch is armed, the bits WR15 enables come from the snapshot. -/
def rr0Value (cfg : Config) (c : Channel) : Byte :=
  if c.extLatched then
    (liveRR0 cfg c &&& ~~~(c.wr15 &&& 0xFA#8)) ||| (c.extSnap &&& (c.wr15 &&& 0xFA#8))
  else liveRR0 cfg c

/-- The value of an RR1 read (R262). -/
def rr1Value (c : Channel) : Byte :=
  zext c.allSent ||| (c.residue.setWidth 8 <<< 1) ||| (c.errBits.setWidth 8 <<< 4)

/-- `sm` (R300): overrun and framing errors are special, a parity error when WR1.D2 says so. -/
def specialMask (wr1 : Byte) : Byte := 0x60#8 ||| (if parityIsSpecial wr1 then 0x10#8 else 0x00#8)

/-- An error byte carries a special receive condition (R300). -/
def isSpecial (wr1 : Byte) (err : Byte) : Bool := (err &&& specialMask wr1) != 0x00#8

/-- The exclusive or of bits k-1..0 of `b` (R312, R325). -/
def xorBits (b : Byte) (k : Nat) : Bool := (List.range k).foldl (fun x i => x ^^ b.getLsbD i) false

/-- The parity bit of the low k bits of `b` under WR4 (R312): even parity makes the total count of ones even. -/
def parityBit (wr4 b : Byte) (k : Nat) : Bool := if parityEven wr4 then xorBits b k else !(xorBits b k)

/-- The 3-bit status code (R117): bit 2 is 1 for channel A, bits 1..0 are the source. -/
def statusCode (ch : ChanId) (src : Source) : BitVec 3 :=
  match ch with
  | .a => 0b1#1 ++ src.code
  | .b => 0b0#1 ++ src.code

/-- `reverse3(b2 b1 b0) = b0 b1 b2` (R414). -/
def reverse3 (c : BitVec 3) : BitVec 3 := c.extractLsb' 0 1 ++ c.extractLsb' 1 1 ++ c.extractLsb' 2 1

/-- `modify(vec, ch, src)` (R414): the vector with the status code stamped into bits 6..4 (status high) or 3..1. -/
def modifyVector (cfg : Config) (wr9 vec : Byte) (ch : ChanId) (src : Source) : Byte :=
  let code := statusCode ch src
  if shsl wr9 then
    (vec &&& 0x8F#8) ||| ((if cfg.statusHighReversed then reverse3 code else code).setWidth 8 <<< 4)
  else (vec &&& 0xF1#8) ||| (code.setWidth 8 <<< 1)

end Sys2Proof.Machine
end

