-- ==== Sys2Proof/Machine/Ops.lean ====
section
/-! DEFINITION. The shared operations: access to the state's parts, the interrupt arbiter (R404-R410), the rate state (R340,
R341), the FIFOs and the serial machines (R300-R327), and the resets (R502, R503, R505). The block has no synchronous
exception (R400); what stands here for taking an exception and returning from one is the interrupt acknowledge (R408) and
the reset of the highest in-service slot (R410), the only such mechanism the block has. -/

namespace Sys2Proof.Machine

/-! ### The parts of the state -/

/-- The record of channel `ch` (R20). -/
def State.chan (s : State) : ChanId → Channel
  | .a => s.chA
  | .b => s.chB

/-- Replace the record of channel `ch`. -/
def State.setChan (s : State) (ch : ChanId) (c : Channel) : State :=
  match ch with
  | .a => { s with chA := c }
  | .b => { s with chB := c }

/-- Replace the controller record. -/
def State.setCtl (s : State) (k : Controller) : State := { s with ctl := k }

/-- What the operation returns to the host. -/
def State.respond (s : State) (r : Response) : State := { s with response := r }

/-- Slot i. -/
def Slots.get (t : Slots) : SlotId → Slot
  | .aRx => t.aRx
  | .aTx => t.aTx
  | .aExt => t.aExt
  | .bRx => t.bRx
  | .bTx => t.bTx
  | .bExt => t.bExt

/-- Replace slot i. -/
def Slots.set (t : Slots) (i : SlotId) (x : Slot) : Slots :=
  match i with
  | .aRx => { t with aRx := x }
  | .aTx => { t with aTx := x }
  | .aExt => { t with aExt := x }
  | .bRx => { t with bRx := x }
  | .bTx => { t with bTx := x }
  | .bExt => { t with bExt := x }

/-- `ctl.slot[i]`. -/
def State.slot (s : State) (i : SlotId) : Slot := s.ctl.slots.get i

/-- `ctl.slot[i] <- x`. -/
def State.setSlot (s : State) (i : SlotId) (x : Slot) : State :=
  s.setCtl { s.ctl with slots := s.ctl.slots.set i x }

/-- `ctl.ipBits[5 - i]`. -/
def State.ipBit (s : State) (i : SlotId) : Bool := (s.ctl.ipBits &&& i.mask) != 0#6

/-- `ctl.ipBits[5 - i] <- b`. -/
def State.setIpBit (s : State) (i : SlotId) (b : Bool) : State :=
  s.setCtl { s.ctl with ipBits := if b then s.ctl.ipBits ||| i.mask else s.ctl.ipBits &&& ~~~i.mask }

/-- The operation is complete and returns nothing. -/
def done (s : State) : Host.Outcome State Fault Refusal := .next (s.respond .nothing)

/-- The operation is complete and returns a byte. -/
def answer (r : Byte × State) : Host.Outcome State Fault Refusal := .next (r.2.respond (.byte r.1))

/-! ### The interrupt arbiter -/

/-- `trigger(ch, type)` (R404): dropped while MIE is clear. A slot whose source is the special condition keeps it when an RX
trigger comes (log entry 6). -/
def trigger (ch : ChanId) (t : IntType) (s : State) : State :=
  if mie s.ctl.wr9 then
    let i := slotOf ch t.condition
    let old := s.slot i
    let src := if t = .rx ∧ old.src = .special then old.src else t.source
    (s.setSlot i { old with ip := true, src := src }).setIpBit i true
  else s

/-- `clear(ch, type)` (R405). -/
def clear (ch : ChanId) (c : Condition) (s : State) : State :=
  let i := slotOf ch c
  (s.setSlot i { s.slot i with ip := false }).setIpBit i false

/-- `acknowledge(i)` (R408): the slot goes from pending to in service; its RR3 bit and source stay. -/
def acknowledge (i : SlotId) (s : State) : State := s.setSlot i { s.slot i with ip := false, ius := true }

/-- The least slot index with `ip` (R263, R409). -/
def firstPending (s : State) : Option SlotId := SlotId.all.find? fun i => (s.slot i).ip

/-- The least slot index with `ius` (R410). -/
def firstInService (s : State) : Option SlotId := SlotId.all.find? fun i => (s.slot i).ius

/-- `resetHighestIUS()` (R410). -/
def resetHighestIus (s : State) : State :=
  match firstInService s with
  | some i => s.setSlot i { s.slot i with ius := false }
  | none => s

/-- `anyIus` (R406). -/
def anyInService (s : State) : Bool := SlotId.all.any fun i => (s.slot i).ius

/-- `int`, the IRQ output (R406, R46): nothing in service and something pending. -/
def irqOutput (s : State) : Bool := !anyInService s && SlotId.all.any fun i => (s.slot i).ip

/-- `blocksLower` (R406). -/
def blocksLower (s : State) : Bool := anyInService s || dlc s.ctl.wr9

/-- The vector with the status of slot i stamped in, `modify(ctl.wr2, chanOf(i), ctl.slot[i].src)` (R263, R409). -/
def slotVector (s : State) (i : SlotId) : Byte := modifyVector s.cfg s.ctl.wr9 s.ctl.wr2 i.chan (s.slot i).src

/-! ### The baud rate -/

/-- The clock the generator divides, `src` (R340). -/
def brgSourceHz (cfg : Config) (ch : ChanId) (c : Channel) : Nat :=
  if brgFromPclk c.wr14 then cfg.pclkHz else rtxcHz cfg ch

/-- `brgOut(ch)` (R340), the exact output frequency of the generator. -/
def brgOut (cfg : Config) (ch : ChanId) (c : Channel) : Rate :=
  .hz (brgSourceHz cfg ch c) ((timeConstant c + 2) * cfg.brgPrescale)

/-- `rateOf(ch)` (R340), the bit rate. -/
def rateOf (cfg : Config) (ch : ChanId) (c : Channel) : Rate :=
  if brgEnable c.wr14 then
    .hz (brgSourceHz cfg ch c) ((timeConstant c + 2) * cfg.brgPrescale * mult c.wr4)
  else .stopped

/-- `rateUpdate(ch)` (R341): at once when the transmit shift register is idle, else at the end of the character. -/
def rateUpdate (cfg : Config) (ch : ChanId) (c : Channel) : Channel :=
  let r := rateOf cfg ch c
  if c.tsr.isEmpty then { c with ratePending := r, rateApplied := r, delayedChange := false }
  else { c with ratePending := r, delayedChange := true }

/-! ### The transmitter -/

/-- The k data bits of `b`, least significant first (R84, R312). -/
def dataBits (b : Byte) (k : Nat) : List Bool := (List.range k).map fun i => b.getLsbD i

/-- `frame(ch, b)` (R312): start bit, data, parity if on, one or two stop bits. -/
def frame (wr4 wr5 b : Byte) : List Bool :=
  let k := txBits wr5
  false :: dataBits b k
    ++ (if parityOn wr4 then [parityBit wr4 b k] else [])
    ++ (if isOneStopBit wr4 then [true] else [true, true])

/-- `txIntCheck(ch, wasFull)` (R313). -/
def txIntCheck (ch : ChanId) (wasFull : Bool) (s : State) : State :=
  let c := s.chan ch
  let fire := if s.cfg.isEscc && txFifoEmptyLevel c.wr7p then c.txq.isEmpty else wasFull
  if fire && !c.txIntDisarmed && txIntEnable c.wr1 then trigger ch .tx s else s

/-- The transmitter may start a character (R310), the FIFO's content apart. -/
def canStart (c : Channel) : Bool := txEnable c.wr5 && !sendBreak c.wr5 && c.tsr.isEmpty && ctsOk c

/-- `txKick(ch)` (R310): start a character from the FIFO if one waits and the transmitter may start. -/
def txKick (ch : ChanId) (s : State) : State :=
  let c := s.chan ch
  match c.txq with
  | [] => s
  | b :: rest =>
    if canStart c then
      txIntCheck ch (c.txq.length == ntx s.cfg)
        (s.setChan ch { c with txq := rest, tsr := frame c.wr4 c.wr5 b })
    else s

/-- The deferred rate change of R311's first line. -/
def applyDelayedRate (c : Channel) : Channel :=
  if c.delayedChange then { c with rateApplied := c.ratePending, delayedChange := false } else c

/-- All sent, with the pending RTS release (R311's last lines). -/
def markAllSent (c : Channel) : Channel :=
  if c.rtsReleasePending then { c with allSent := true, rtsOn := false, rtsReleasePending := false }
  else { c with allSent := true }

/-- `transmitComplete(ch)` (R311), run when the last bit of a frame has been sent. `txKick` itself does nothing on an empty
FIFO, so R311's count test needs no branch of its own. -/
def transmitComplete (ch : ChanId) (s : State) : State :=
  let s1 := s.setChan ch (applyDelayedRate (s.chan ch))
  if txEnable (s1.chan ch).wr5 && !sendBreak (s1.chan ch).wr5 then
    let s2 := txKick ch s1
    if (s2.chan ch).tsr.isEmpty && (s2.chan ch).txq.isEmpty then s2.setChan ch (markAllSent (s2.chan ch)) else s2
  else s1

/-- `txBitStep(ch)` (R320) on a channel in an asynchronous mode. -/
def txBitStep (ch : ChanId) (s : State) : State :=
  let c := s.chan ch
  if sendBreak c.wr5 then s.setChan ch { c with txd := false }
  else if !txEnable c.wr5 then s.setChan ch { c with txd := true }
  else
    match c.tsr with
    | [] => s.setChan ch { c with txd := true }
    | [b] => transmitComplete ch (s.setChan ch { c with txd := b, tsr := [] })
    | b :: rest => s.setChan ch { c with txd := b, tsr := rest }

/-! ### The receiver and the data register -/

/-- Overwrite the most recently pushed entry of the receive FIFO (R327, overrun). -/
def replaceLast (q : List RxEntry) (e : RxEntry) : List RxEntry := q.dropLast ++ [e]

/-- The receive FIFO after a completed character (R327): an entry lost to overrun carries the flag 0x20. -/
def pushRx (cfg : Config) (q : List RxEntry) (d err : Byte) : List RxEntry :=
  if q.length = nrx cfg then replaceLast q ⟨d, err ||| 0x20#8⟩ else q ++ [⟨d, err⟩]

/-- `receiveData(ch, d, e)` (R327). -/
def receiveData (ch : ChanId) (d err : Byte) (s : State) : State :=
  let c := s.chan ch
  let c1 := { c with rxq := pushRx s.cfg c.rxq d err }
  if rxMode c.wr1 = rxModeAll then trigger ch .rx (s.setChan ch c1)
  else if rxMode c.wr1 = rxModeFirst then
    if c.rxFirstArmed then trigger ch .rx (s.setChan ch { c1 with rxFirstArmed := false })
    else s.setChan ch c1
  else s.setChan ch c1

/-- The receiver is gated off (R325): disabled, or /DCD deasserted under auto enables. -/
def rxGated (c : Channel) : Bool := !rxEnable c.wr3 || (autoEnables c.wr3 && c.dcdPin)

/-- The error byte of a received character (R325): parity error 0x10, framing error 0x40. -/
def rxErrorByte (perr b : Bool) : Byte := (if perr then 0x10#8 else 0x00#8) ||| (if b then 0x00#8 else 0x40#8)

/-- `rxBitStep(ch)` (R325) on a channel in an asynchronous mode, sampling the RxD pin. The word length is compared for
equality, as the rule writes it (log entry 7). -/
def rxBitStep (ch : ChanId) (s : State) : State :=
  let c := s.chan ch
  let b := c.rxdPin
  if rxGated c then s.setChan ch { c with rxs := .idle }
  else
    match c.rxs with
    | .idle => if b then s else s.setChan ch { c with rxs := .data 0 0x00#8 }
    | .data k acc =>
      let acc' := acc ||| (zext b <<< k)
      if k + 1 = rxBits c.wr3 then
        s.setChan ch { c with rxs := if parityOn c.wr4 then .parity acc' else .stop acc' false }
      else s.setChan ch { c with rxs := .data (k + 1) acc' }
    | .parity acc => s.setChan ch { c with rxs := .stop acc (b != parityBit c.wr4 acc (rxBits c.wr3)) }
    | .stop acc perr => receiveData ch acc (rxErrorByte perr b) (s.setChan ch { c with rxs := .idle })

/-- `dataRead(ch)` (R300). A locked FIFO does not advance until an error reset: its head is delivered, and raises the special
condition, at every read, whatever WR1 says of parity by then (R300's corner case, R523, log entry 8). -/
def dataRead (ch : ChanId) (s : State) : Byte × State :=
  let c := s.chan ch
  match c.rxq with
  | [] => (0x00#8, s)
  | e :: rest =>
    let errBits := e.err.extractLsb' 4 4
    if c.rxLocked || isSpecial c.wr1 e.err then
      let s1 := s.setChan ch { c with errBits := errBits, rxLocked := true }
      (e.data, if rxMode c.wr1 = rxModeDisabled then s1 else trigger ch .special s1)
    else
      let s1 := s.setChan ch { c with errBits := errBits, rxq := rest }
      (e.data, if rest.isEmpty then clear ch .rx s1 else s1)

/-- `dataWrite(ch, v)` (R305). -/
def dataWrite (ch : ChanId) (v : Byte) (s : State) : State :=
  let c := s.chan ch
  if c.txq.length < ntx s.cfg then
    txKick ch (clear ch .tx (s.setChan ch { c with txq := c.txq ++ [v], allSent := false, txIntDisarmed := false }))
  else txKick ch s

/-! ### Resets -/

/-- `resetChannelHidden(ch)` (R505), on a channel whose registers have been reset. -/
def resetChannelHidden (cfg : Config) (ch : ChanId) (c : Channel) : Channel :=
  { c with
    rxq := [], txq := [], rxLocked := false
    tsr := [], rxs := .idle, txDiv := 0, rxDiv := 0
    txUnderrun := true
    allSent := true, residue := 0b011#3, errBits := 0#4
    extLatched := false, extSnap := 0x00#8
    rxFirstArmed := true, txIntDisarmed := false
    txd := true, rtsOn := false, rtsReleasePending := false
    rateApplied := rateOf cfg ch c, ratePending := rateOf cfg ch c, delayedChange := false }

/-- The register part both resets share (R502, R503). -/
def resetCommonRegs (cfg : Config) (c : Channel) : Channel :=
  { c with
    wr1 := c.wr1 &&& 0x24#8
    wr3 := c.wr3 &&& 0xFE#8
    wr4 := c.wr4 ||| 0x04#8
    wr5 := c.wr5 &&& 0x61#8
    wr7p := if cfg.isEscc then 0x20#8 else c.wr7p
    wr15 := 0xF8#8 }

/-- The channel part of `hardwareReset` (R502). -/
def hardwareResetChannel (cfg : Config) (ch : ChanId) (c : Channel) : Channel :=
  resetChannelHidden cfg ch { resetCommonRegs cfg c with wr10 := 0x00#8, wr11 := 0x08#8, wr14 := 0x30#8 }

/-- `hardwareReset(preserveShift)` (R502). -/
def hardwareReset (preserveShift : Bool) (s : State) : State :=
  { s with
    chA := hardwareResetChannel s.cfg .a s.chA
    chB := hardwareResetChannel s.cfg .b s.chB
    ctl := { s.ctl with
      wr9 := s.ctl.wr9 &&& 0x03#8
      slots := Slots.idle
      ipBits := 0#6
      ptr := 0#4
      zshift := if preserveShift then s.ctl.zshift else .left } }

/-- The three slots of a channel (R402). -/
def channelSlots (ch : ChanId) : List SlotId := [slotOf ch .rx, slotOf ch .tx, slotOf ch .ext]

/-- One slot and its RR3 bit cleared (R503). -/
def idleSlot (i : SlotId) (s : State) : State := (s.setSlot i Slot.idle).setIpBit i false

/-- The channel part of `channelReset` (R503). -/
def channelResetChannel (cfg : Config) (ch : ChanId) (c : Channel) : Channel :=
  resetChannelHidden cfg ch
    { resetCommonRegs cfg c with wr10 := c.wr10 &&& 0x61#8, wr14 := (c.wr14 &&& 0xC3#8) ||| 0x20#8 }

/-- `channelReset(ch)` (R503). -/
def channelReset (ch : ChanId) (s : State) : State :=
  (channelSlots ch).foldl (fun t i => idleSlot i t) (s.setChan ch (channelResetChannel s.cfg ch (s.chan ch)))

/-! ### Fetching what the host issued -/

/-- The oldest operation the host has issued, and the state with it taken from the queue (R88). -/
def fetch (s : State) : Option (HostWord × State) :=
  match s.pending with
  | [] => none
  | w :: rest => some (w, { s with pending := rest })

end Sys2Proof.Machine
end

