-- ==== Sys2Proof/Machine/ReadRegisters.lean ====
section
/-! DEFINITION. The read registers RR0-RR15 (R260-R276), the read remap and the register-level read dispatch `RegRead` (R161,
R162), and the meanings of the class 01 operations. Every read completes and returns a byte. -/

namespace Sys2Proof.Machine

/-- RR0 (R261). -/
def readRr0 (ch : ChanId) (s : State) : Byte × State := (rr0Value s.cfg (s.chan ch), s)

/-- RR1 (R262). -/
def readRr1 (ch : ChanId) (s : State) : Byte × State := (rr1Value (s.chan ch), s)

/-- RR2 (R263): channel A reads the raw vector. Channel B reads it with the status of the highest pending slot, which it
acknowledges on an ESCC with WR9.D5 set; with nothing pending the status is channel B, special condition. -/
def readRr2 (ch : ChanId) (s : State) : Byte × State :=
  match ch with
  | .a => (s.ctl.wr2, s)
  | .b =>
    match firstPending s with
    | none => (modifyVector s.cfg s.ctl.wr9 s.ctl.wr2 .b .special, s)
    | some i => (slotVector s i, if s.cfg.isEscc && softIack s.ctl.wr9 then acknowledge i s else s)

/-- RR3 (R264): the pending bitmap, on channel A only. -/
def readRr3 (ch : ChanId) (s : State) : Byte × State :=
  match ch with
  | .a => (s.ctl.ipBits.setWidth 8, s)
  | .b => (0x00#8, s)

/-- RR12 (R273). -/
def readRr12 (ch : ChanId) (s : State) : Byte × State := ((s.chan ch).wr12, s)

/-- RR13 (R274). -/
def readRr13 (ch : ChanId) (s : State) : Byte × State := ((s.chan ch).wr13, s)

/-- RR15 (R276). -/
def readRr15 (ch : ChanId) (s : State) : Byte × State := ((s.chan ch).wr15, s)

/-- RR10 (R271, R41). -/
def readRr10 (_ch : ChanId) (s : State) : Byte × State := (0x00#8, s)

/-- Extended read is in force on channel ch (R162). -/
def isExtended (ch : ChanId) (s : State) : Bool := extendedRead s.cfg (s.chan ch)

/-- RR4 (R265). -/
def readRr4 (ch : ChanId) (s : State) : Byte × State := if isExtended ch s then ((s.chan ch).wr4, s) else readRr0 ch s

/-- RR5 (R266). -/
def readRr5 (ch : ChanId) (s : State) : Byte × State := if isExtended ch s then ((s.chan ch).wr5, s) else readRr1 ch s

/-- RR6 (R267): RR2 on every variant, its side effect included. -/
def readRr6 (ch : ChanId) (s : State) : Byte × State := readRr2 ch s

/-- RR7 (R268): RR3 on every variant. -/
def readRr7 (ch : ChanId) (s : State) : Byte × State := readRr3 ch s

/-- RR8 (R269): the data register. -/
def readRr8 (ch : ChanId) (s : State) : Byte × State := dataRead ch s

/-- RR9 (R270). -/
def readRr9 (ch : ChanId) (s : State) : Byte × State := if isExtended ch s then ((s.chan ch).wr3, s) else readRr13 ch s

/-- RR11 (R272). -/
def readRr11 (ch : ChanId) (s : State) : Byte × State := if isExtended ch s then ((s.chan ch).wr10, s) else readRr15 ch s

/-- RR14 (R275). -/
def readRr14 (ch : ChanId) (s : State) : Byte × State := if isExtended ch s then ((s.chan ch).wr7p, s) else readRr10 ch s

/-! ### Dispatch -/

/-- What a read index resolves to (R161, R162): a stored write register, or the view of a read register. -/
inductive ReadTarget where
  | wr3
  | wr4
  | wr5
  | wr7p
  | wr10
  | rr0
  | rr1
  | rr2
  | rr3
  | rr8
  | rr10
  | rr12
  | rr13
  | rr15
  deriving DecidableEq, Repr

/-- The read-remap table `resolve` (R162). -/
def resolve (ext : Bool) (n : BitVec 4) : ReadTarget :=
  match n.toNat with
  | 0 => .rr0
  | 1 => .rr1
  | 2 => .rr2
  | 3 => .rr3
  | 4 => if ext then .wr4 else .rr0
  | 5 => if ext then .wr5 else .rr1
  | 6 => .rr2
  | 7 => .rr3
  | 8 => .rr8
  | 9 => if ext then .wr3 else .rr13
  | 10 => .rr10
  | 11 => if ext then .wr10 else .rr15
  | 12 => .rr12
  | 13 => .rr13
  | 14 => if ext then .wr7p else .rr10
  | _ => .rr15

/-- Read a resolved target, side effects included (R161). -/
def readTarget (ch : ChanId) (t : ReadTarget) (s : State) : Byte × State :=
  match t with
  | .wr3 => ((s.chan ch).wr3, s)
  | .wr4 => ((s.chan ch).wr4, s)
  | .wr5 => ((s.chan ch).wr5, s)
  | .wr7p => ((s.chan ch).wr7p, s)
  | .wr10 => ((s.chan ch).wr10, s)
  | .rr0 => readRr0 ch s
  | .rr1 => readRr1 ch s
  | .rr2 => readRr2 ch s
  | .rr3 => readRr3 ch s
  | .rr8 => dataRead ch s
  | .rr10 => readRr10 ch s
  | .rr12 => readRr12 ch s
  | .rr13 => readRr13 ch s
  | .rr15 => readRr15 ch s

/-- `RegRead(ch, n)` (R161). -/
def regRead (ch : ChanId) (n : BitVec 4) (s : State) : Byte × State :=
  readTarget ch (resolve (isExtended ch s) n) s

/-! ### The meanings -/

/-- RR0 (R261). -/
def execRr0 (ch : ChanId) (s : State) : Host.Outcome State Fault Refusal := answer (readRr0 ch s)

/-- RR1 (R262). -/
def execRr1 (ch : ChanId) (s : State) : Host.Outcome State Fault Refusal := answer (readRr1 ch s)

/-- RR2 (R263). -/
def execRr2 (ch : ChanId) (s : State) : Host.Outcome State Fault Refusal := answer (readRr2 ch s)

/-- RR3 (R264). -/
def execRr3 (ch : ChanId) (s : State) : Host.Outcome State Fault Refusal := answer (readRr3 ch s)

/-- RR4 (R265). -/
def execRr4 (ch : ChanId) (s : State) : Host.Outcome State Fault Refusal := answer (readRr4 ch s)

/-- RR5 (R266). -/
def execRr5 (ch : ChanId) (s : State) : Host.Outcome State Fault Refusal := answer (readRr5 ch s)

/-- RR6 (R267). -/
def execRr6 (ch : ChanId) (s : State) : Host.Outcome State Fault Refusal := answer (readRr6 ch s)

/-- RR7 (R268). -/
def execRr7 (ch : ChanId) (s : State) : Host.Outcome State Fault Refusal := answer (readRr7 ch s)

/-- RR8 (R269). -/
def execRr8 (ch : ChanId) (s : State) : Host.Outcome State Fault Refusal := answer (readRr8 ch s)

/-- RR9 (R270). -/
def execRr9 (ch : ChanId) (s : State) : Host.Outcome State Fault Refusal := answer (readRr9 ch s)

/-- RR10 (R271). -/
def execRr10 (ch : ChanId) (s : State) : Host.Outcome State Fault Refusal := answer (readRr10 ch s)

/-- RR11 (R272). -/
def execRr11 (ch : ChanId) (s : State) : Host.Outcome State Fault Refusal := answer (readRr11 ch s)

/-- RR12 (R273). -/
def execRr12 (ch : ChanId) (s : State) : Host.Outcome State Fault Refusal := answer (readRr12 ch s)

/-- RR13 (R274). -/
def execRr13 (ch : ChanId) (s : State) : Host.Outcome State Fault Refusal := answer (readRr13 ch s)

/-- RR14 (R275). -/
def execRr14 (ch : ChanId) (s : State) : Host.Outcome State Fault Refusal := answer (readRr14 ch s)

/-- RR15 (R276). -/
def execRr15 (ch : ChanId) (s : State) : Host.Outcome State Fault Refusal := answer (readRr15 ch s)

end Sys2Proof.Machine
end

