-- ==== Sys2Proof/Machine/WriteRegisters.lean ====
section
/-! DEFINITION. The write registers WR0-WR15 (R199-R226), the register-level write dispatch `RegWrite` (R160), and the meanings
of the class 00 operations. Every write completes and returns nothing. -/

namespace Sys2Proof.Machine

/-! ### WR0 -/

/-- The pointer or shift bits of a WR0 write (R209 on the Universal-Bus, R210 on the Z-Bus). -/
def wr0Pointer (v : Byte) (s : State) : State :=
  match s.cfg.bus with
  | .uBus => s.setCtl { s.ctl with ptr := (wr0PointerBits v).setWidth 4 }
  | .zBus =>
    match (wr0ShiftBits v).toNat with
    | 2 => s.setCtl { s.ctl with zshift := .left }
    | 3 => s.setCtl { s.ctl with zshift := .right }
    | _ => s

/-- The CRC reset code of a WR0 write (R208, R111): each of the four is recognised and has no effect on state. -/
def wr0CrcReset (code : BitVec 2) (s : State) : State :=
  match code.toNat with
  | 0 => s
  | 1 => s
  | 2 => s
  | _ => s

/-- The order of effects of a WR0 write (R199): pointer or shift bits, the command, the CRC reset code. -/
def wr0Effects (command : State → State) (v : Byte) (s : State) : State :=
  wr0CrcReset (wr0CrcCode v) (command (wr0Pointer v s))

/-- Null command (R200). -/
def commandNull (s : State) : State := s

/-- Point high (R201): on the Z-Bus a null command. -/
def commandPointHigh (s : State) : State :=
  match s.cfg.bus with
  | .uBus => s.setCtl { s.ctl with ptr := s.ctl.ptr ||| 8#4 }
  | .zBus => s

/-- Reset external/status interrupts (R202). -/
def commandResetExtStatus (ch : ChanId) (s : State) : State :=
  let s1 := clear ch .ext s
  let c := s1.chan ch
  if c.extLatched then
    let live := liveRR0 s1.cfg c
    if ((c.extSnap ^^^ live) &&& c.wr15 &&& 0x28#8) != 0x00#8 then
      let s2 := s1.setChan ch { c with extSnap := live, extLatched := true }
      if extIntEnable c.wr1 then trigger ch .ext s2 else s2
    else s1.setChan ch { c with extLatched := false }
  else s1

/-- Send abort (R203): recognised, no effect. -/
def commandSendAbort (s : State) : State := s

/-- Enable interrupt on next receive character (R204). -/
def commandEnableIntNextRx (ch : ChanId) (s : State) : State := s.setChan ch { s.chan ch with rxFirstArmed := true }

/-- Reset transmit interrupt pending (R205). -/
def commandResetTxInt (ch : ChanId) (s : State) : State :=
  let s1 := clear ch .tx s
  s1.setChan ch { s1.chan ch with txIntDisarmed := true }

/-- The receive FIFO after an error reset (R206): a locked head entry is discarded. A locked FIFO has a head in
every sound state; popping an empty queue leaves it empty (log entry 8). -/
def errorResetQueue (c : Channel) : List RxEntry := if c.rxLocked then c.rxq.tail else c.rxq

/-- Error reset (R206). -/
def commandErrorReset (ch : ChanId) (s : State) : State :=
  let c := s.chan ch
  let s1 := clear ch .rx (s.setChan ch { c with errBits := 0#4, rxq := errorResetQueue c, rxLocked := false })
  if !(errorResetQueue c).isEmpty && rxMode c.wr1 == rxModeAll then trigger ch .rx s1 else s1

/-- Reset highest IUS (R207), whatever the channel. -/
def commandResetHighestIus (s : State) : State := resetHighestIus s

/-- The command of `v[5:3]` (R110). -/
def wr0Command (ch : ChanId) (code : BitVec 3) (s : State) : State :=
  match code.toNat with
  | 0 => commandNull s
  | 1 => commandPointHigh s
  | 2 => commandResetExtStatus ch s
  | 3 => commandSendAbort s
  | 4 => commandEnableIntNextRx ch s
  | 5 => commandResetTxInt ch s
  | 6 => commandErrorReset ch s
  | _ => commandResetHighestIus s

/-- A WR0 write (R199). -/
def writeWr0 (ch : ChanId) (v : Byte) (s : State) : State := wr0Effects (wr0Command ch (wr0CommandCode v)) v s

/-! ### WR1-WR8 -/

/-- WR1 (R213). -/
def writeWr1 (ch : ChanId) (v : Byte) (s : State) : State := s.setChan ch { s.chan ch with wr1 := v }

/-- WR2 (R211): one copy, whichever channel it is reached through. -/
def writeWr2 (v : Byte) (s : State) : State := s.setCtl { s.ctl with wr2 := v }

/-- WR3 (R214). -/
def writeWr3 (ch : ChanId) (v : Byte) (s : State) : State :=
  let c := { s.chan ch with wr3 := v }
  let c1 := if enterHunt v then { c with syncHunt := true } else c
  s.setChan ch (if rxEnable v then c1 else { c1 with rxs := .idle, rxDiv := 0 })

/-- WR4 (R215): a write of the value held is a no-op, any other resets the shift registers and recomputes the rate. -/
def writeWr4 (ch : ChanId) (v : Byte) (s : State) : State :=
  let c := s.chan ch
  if v = c.wr4 then s
  else s.setChan ch (rateUpdate s.cfg ch { c with wr4 := v, tsr := [], rxs := .idle, txDiv := 0, rxDiv := 0 })

/-- The RTS output after a WR5 write (R217). -/
def wr5Rts (v : Byte) (c : Channel) : Channel :=
  if rts v then { c with rtsOn := true, rtsReleasePending := false }
  else if c.rtsOn && autoEnables c.wr3 && !c.allSent then { c with rtsReleasePending := true }
  else { c with rtsOn := false, rtsReleasePending := false }

/-- The TxD level after a WR5 write (R217): break, or mark when disabled or idle. -/
def wr5Txd (v : Byte) (c : Channel) : Channel :=
  if sendBreak v then { c with txd := false }
  else if !txEnable v || c.tsr.isEmpty then { c with txd := true }
  else c

/-- WR5 (R217): a write of the value held is a no-op. -/
def writeWr5 (ch : ChanId) (v : Byte) (s : State) : State :=
  let c := s.chan ch
  if v = c.wr5 then s else txKick ch (s.setChan ch (wr5Txd v (wr5Rts v { c with wr5 := v })))

/-- WR6 (R218): stored, not interpreted. -/
def writeWr6 (ch : ChanId) (v : Byte) (s : State) : State := s.setChan ch { s.chan ch with wr6 := v }

/-- WR7, or WR7' on an ESCC while `wr15.D0 = 1` (R212). -/
def writeWr7 (ch : ChanId) (v : Byte) (s : State) : State :=
  let c := s.chan ch
  s.setChan ch (if s.cfg.isEscc && wr7pAccess c.wr15 then { c with wr7p := v } else { c with wr7 := v })

/-- WR8 (R219): the transmit FIFO push. -/
def writeWr8 (ch : ChanId) (v : Byte) (s : State) : State := dataWrite ch v s

/-! ### WR9 -/

/-- The stored part of WR9, `ctl.wr9 <- v & 0x3F` (R216). -/
def storeWr9 (v : Byte) (s : State) : State := s.setCtl { s.ctl with wr9 := v &&& 0x3F#8 }

/-- WR9 code 00, no reset (R216). -/
def wr9NoReset (v : Byte) (s : State) : State := storeWr9 v s

/-- WR9 code 01, channel reset B (R216). -/
def wr9ResetB (v : Byte) (s : State) : State := channelReset .b (storeWr9 v s)

/-- WR9 code 10, channel reset A (R216). -/
def wr9ResetA (v : Byte) (s : State) : State := channelReset .a (storeWr9 v s)

/-- WR9 code 11, force hardware reset: MIE, SHSL and DLC are those of this write (R216). -/
def wr9HwReset (v : Byte) (s : State) : State :=
  let s1 := hardwareReset true s
  s1.setCtl { s1.ctl with wr9 := (s1.ctl.wr9 &&& ~~~0x1C#8) ||| (v &&& 0x1C#8) }

/-- A WR9 write (R216). -/
def writeWr9 (v : Byte) (s : State) : State :=
  match (wr9ResetCode v).toNat with
  | 0 => wr9NoReset v s
  | 1 => wr9ResetB v s
  | 2 => wr9ResetA v s
  | _ => wr9HwReset v s

/-! ### WR10-WR15 -/

/-- WR10 (R220): stored. -/
def writeWr10 (ch : ChanId) (v : Byte) (s : State) : State := s.setChan ch { s.chan ch with wr10 := v }

/-- WR11 (R221): stored; the host honours the clock sources it selects (R330). -/
def writeWr11 (ch : ChanId) (v : Byte) (s : State) : State := s.setChan ch { s.chan ch with wr11 := v }

/-- WR12 (R222). -/
def writeWr12 (ch : ChanId) (v : Byte) (s : State) : State :=
  s.setChan ch (rateUpdate s.cfg ch { s.chan ch with wr12 := v })

/-- WR13 (R223). -/
def writeWr13 (ch : ChanId) (v : Byte) (s : State) : State :=
  s.setChan ch (rateUpdate s.cfg ch { s.chan ch with wr13 := v })

/-- The rate state after a WR14 write over `old` (R224): enable edge, disable edge, or change of source. -/
def wr14Rate (cfg : Config) (ch : ChanId) (old : Byte) (c : Channel) : Channel :=
  if brgEnable c.wr14 then
    if !brgEnable old || brgFromPclk old != brgFromPclk c.wr14 then rateUpdate cfg ch c else c
  else if brgEnable old then { c with rateApplied := .stopped, ratePending := .stopped, delayedChange := false }
  else c

/-- A DPLL command (R225, R113): each of the eight is recognised and changes no state beyond the store of WR14. -/
def dpllCommand (code : BitVec 3) (c : Channel) : Channel :=
  match code.toNat with
  | 0 => c
  | 1 => c
  | 2 => c
  | 3 => c
  | 4 => c
  | 5 => c
  | 6 => c
  | _ => c

/-- WR14 (R224, R225). -/
def writeWr14 (ch : ChanId) (v : Byte) (s : State) : State :=
  let c := s.chan ch
  s.setChan ch (wr14Rate s.cfg ch c.wr14 (dpllCommand (wr14DpllCode v) { c with wr14 := v }))

/-- WR15 (R226). -/
def writeWr15 (ch : ChanId) (v : Byte) (s : State) : State := s.setChan ch { s.chan ch with wr15 := v }

/-! ### Dispatch -/

/-- `RegWrite(ch, n, v)` (R160). -/
def regWrite (ch : ChanId) (n : BitVec 4) (v : Byte) (s : State) : State :=
  match n.toNat with
  | 0 => writeWr0 ch v s
  | 1 => writeWr1 ch v s
  | 2 => writeWr2 v s
  | 3 => writeWr3 ch v s
  | 4 => writeWr4 ch v s
  | 5 => writeWr5 ch v s
  | 6 => writeWr6 ch v s
  | 7 => writeWr7 ch v s
  | 8 => writeWr8 ch v s
  | 9 => writeWr9 v s
  | 10 => writeWr10 ch v s
  | 11 => writeWr11 ch v s
  | 12 => writeWr12 ch v s
  | 13 => writeWr13 ch v s
  | 14 => writeWr14 ch v s
  | _ => writeWr15 ch v s

/-! ### The meanings -/

/-- WR0.NULL (R200, null command). -/
def execWr0Null (_ch : ChanId) (v : Byte) (s : State) : Host.Outcome State Fault Refusal := done (wr0Effects commandNull v s)

/-- WR0.POINT_HIGH (R201, point high). -/
def execWr0PointHigh (_ch : ChanId) (v : Byte) (s : State) : Host.Outcome State Fault Refusal := done (wr0Effects commandPointHigh v s)

/-- WR0.RESET_EXT_STATUS (R202, reset external/status interrupts). -/
def execWr0ResetExtStatus (ch : ChanId) (v : Byte) (s : State) : Host.Outcome State Fault Refusal := done (wr0Effects (commandResetExtStatus ch) v s)

/-- WR0.SEND_ABORT (R203, send abort). -/
def execWr0SendAbort (_ch : ChanId) (v : Byte) (s : State) : Host.Outcome State Fault Refusal := done (wr0Effects commandSendAbort v s)

/-- WR0.ENABLE_INT_NEXT_RX (R204, enable interrupt on next receive character). -/
def execWr0EnableIntNextRx (ch : ChanId) (v : Byte) (s : State) : Host.Outcome State Fault Refusal := done (wr0Effects (commandEnableIntNextRx ch) v s)

/-- WR0.RESET_TX_INT (R205, reset transmit interrupt pending). -/
def execWr0ResetTxInt (ch : ChanId) (v : Byte) (s : State) : Host.Outcome State Fault Refusal := done (wr0Effects (commandResetTxInt ch) v s)

/-- WR0.ERROR_RESET (R206, error reset). -/
def execWr0ErrorReset (ch : ChanId) (v : Byte) (s : State) : Host.Outcome State Fault Refusal := done (wr0Effects (commandErrorReset ch) v s)

/-- WR0.RESET_HIGHEST_IUS (R207, reset highest IUS). -/
def execWr0ResetHighestIus (_ch : ChanId) (v : Byte) (s : State) : Host.Outcome State Fault Refusal := done (wr0Effects commandResetHighestIus v s)

/-- WR1 (R213). -/
def execWr1 (ch : ChanId) (v : Byte) (s : State) : Host.Outcome State Fault Refusal := done (writeWr1 ch v s)

/-- WR2 (R211). -/
def execWr2 (_ch : ChanId) (v : Byte) (s : State) : Host.Outcome State Fault Refusal := done (writeWr2 v s)

/-- WR3 (R214). -/
def execWr3 (ch : ChanId) (v : Byte) (s : State) : Host.Outcome State Fault Refusal := done (writeWr3 ch v s)

/-- WR4 (R215). -/
def execWr4 (ch : ChanId) (v : Byte) (s : State) : Host.Outcome State Fault Refusal := done (writeWr4 ch v s)

/-- WR5 (R217). -/
def execWr5 (ch : ChanId) (v : Byte) (s : State) : Host.Outcome State Fault Refusal := done (writeWr5 ch v s)

/-- WR6 (R218). -/
def execWr6 (ch : ChanId) (v : Byte) (s : State) : Host.Outcome State Fault Refusal := done (writeWr6 ch v s)

/-- WR7 (R212, WR7 or WR7'). -/
def execWr7 (ch : ChanId) (v : Byte) (s : State) : Host.Outcome State Fault Refusal := done (writeWr7 ch v s)

/-- WR8 (R219, transmit FIFO push). -/
def execWr8 (ch : ChanId) (v : Byte) (s : State) : Host.Outcome State Fault Refusal := done (writeWr8 ch v s)

/-- WR9.NO_RESET (R216, no reset). -/
def execWr9NoReset (_ch : ChanId) (v : Byte) (s : State) : Host.Outcome State Fault Refusal := done (wr9NoReset v s)

/-- WR9.RESET_B (R216, channel reset B). -/
def execWr9ResetB (_ch : ChanId) (v : Byte) (s : State) : Host.Outcome State Fault Refusal := done (wr9ResetB v s)

/-- WR9.RESET_A (R216, channel reset A). -/
def execWr9ResetA (_ch : ChanId) (v : Byte) (s : State) : Host.Outcome State Fault Refusal := done (wr9ResetA v s)

/-- WR9.HW_RESET (R216, force hardware reset). -/
def execWr9HwReset (_ch : ChanId) (v : Byte) (s : State) : Host.Outcome State Fault Refusal := done (wr9HwReset v s)

/-- WR10 (R220). -/
def execWr10 (ch : ChanId) (v : Byte) (s : State) : Host.Outcome State Fault Refusal := done (writeWr10 ch v s)

/-- WR11 (R221). -/
def execWr11 (ch : ChanId) (v : Byte) (s : State) : Host.Outcome State Fault Refusal := done (writeWr11 ch v s)

/-- WR12 (R222). -/
def execWr12 (ch : ChanId) (v : Byte) (s : State) : Host.Outcome State Fault Refusal := done (writeWr12 ch v s)

/-- WR13 (R223). -/
def execWr13 (ch : ChanId) (v : Byte) (s : State) : Host.Outcome State Fault Refusal := done (writeWr13 ch v s)

/-- WR14.DPLL_NULL (R224, R225, DPLL command null). -/
def execWr14DpllNull (ch : ChanId) (v : Byte) (s : State) : Host.Outcome State Fault Refusal := done (writeWr14 ch v s)

/-- WR14.DPLL_ENTER_SEARCH (R224, R225, DPLL command enter search mode). -/
def execWr14DpllEnterSearch (ch : ChanId) (v : Byte) (s : State) : Host.Outcome State Fault Refusal := done (writeWr14 ch v s)

/-- WR14.DPLL_RESET_MISSING_CLOCK (R224, R225, DPLL command reset missing clock). -/
def execWr14DpllResetMissingClock (ch : ChanId) (v : Byte) (s : State) : Host.Outcome State Fault Refusal := done (writeWr14 ch v s)

/-- WR14.DPLL_DISABLE (R224, R225, DPLL command disable DPLL). -/
def execWr14DpllDisable (ch : ChanId) (v : Byte) (s : State) : Host.Outcome State Fault Refusal := done (writeWr14 ch v s)

/-- WR14.DPLL_SOURCE_BRG (R224, R225, DPLL command set source = BRG). -/
def execWr14DpllSourceBrg (ch : ChanId) (v : Byte) (s : State) : Host.Outcome State Fault Refusal := done (writeWr14 ch v s)

/-- WR14.DPLL_SOURCE_RTXC (R224, R225, DPLL command set source = RTxC). -/
def execWr14DpllSourceRtxc (ch : ChanId) (v : Byte) (s : State) : Host.Outcome State Fault Refusal := done (writeWr14 ch v s)

/-- WR14.DPLL_FM_MODE (R224, R225, DPLL command set FM mode). -/
def execWr14DpllFmMode (ch : ChanId) (v : Byte) (s : State) : Host.Outcome State Fault Refusal := done (writeWr14 ch v s)

/-- WR14.DPLL_NRZI_MODE (R224, R225, DPLL command set NRZI mode). -/
def execWr14DpllNrziMode (ch : ChanId) (v : Byte) (s : State) : Host.Outcome State Fault Refusal := done (writeWr14 ch v s)

/-- WR15 (R226). -/
def execWr15 (ch : ChanId) (v : Byte) (s : State) : Host.Outcome State Fault Refusal := done (writeWr15 ch v s)

end Sys2Proof.Machine
end

