-- ==== Sys2Proof/Machine/BusAccess.lean ====
section
/-! DEFINITION. The nine bus entry points (R150-R159): the meanings of the bus access words. An entry point of the other bus
family declines the access: a read returns 0, a write does nothing, and no chip state changes (R151). -/

namespace Sys2Proof.Machine

/-- Take the register pointer: its value, and the state with it cleared (R152). -/
def takePointer (s : State) : BitVec 4 × State := (s.ctl.ptr, s.setCtl { s.ctl with ptr := 0#4 })

/-- Universal-Bus control write (R152). -/
def controlWrite (ch : ChanId) (v : Byte) (s : State) : State := regWrite ch (takePointer s).1 v (takePointer s).2

/-- Universal-Bus control read (R152). -/
def controlRead (ch : ChanId) (s : State) : Byte × State := regRead ch (takePointer s).1 (takePointer s).2

/-- A Universal-Bus write to a resolved target (R150, R152, R153). -/
def targetWrite (t : BusTarget) (v : Byte) (s : State) : State :=
  match t with
  | .control ch => controlWrite ch v s
  | .data ch => dataWrite ch v s

/-- A Universal-Bus read of a resolved target (R150, R152, R153). -/
def targetReadPort (t : BusTarget) (s : State) : Byte × State :=
  match t with
  | .control ch => controlRead ch s
  | .data ch => dataRead ch s

/-- A write through a Universal-Bus entry point: declined on a Z-Bus chip (R151). -/
def uBusWrite (t : BusTarget) (v : Byte) (s : State) : State := if s.cfg.isZBus then s else targetWrite t v s

/-- A read through a Universal-Bus entry point: declined on a Z-Bus chip (R151). -/
def uBusRead (t : BusTarget) (s : State) : Byte × State := if s.cfg.isZBus then (0x00#8, s) else targetReadPort t s

/-- A write through `zbus` (R156): declined on a Universal-Bus chip (R151). -/
def zBusWrite (o : BitVec 6) (v : Byte) (s : State) : State :=
  if s.cfg.isZBus then regWrite (zbusChan s.ctl.zshift o) (zbusIndex s.ctl.zshift o) v s else s

/-- A read through `zbus` (R156): declined on a Universal-Bus chip (R151). -/
def zBusRead (o : BitVec 6) (s : State) : Byte × State :=
  if s.cfg.isZBus then regRead (zbusChan s.ctl.zshift o) (zbusIndex s.ctl.zshift o) s else (0x00#8, s)

/-! ### The meanings -/

/-- BUS.ZBUS.W (R156, Z-Bus write). -/
def execBusZbusW (o : BitVec 6) (v : Byte) (s : State) : Host.Outcome State Fault Refusal :=
  done (zBusWrite o v s)

/-- BUS.ZBUS.R (R156, Z-Bus read). -/
def execBusZbusR (o : BitVec 6) (s : State) : Host.Outcome State Fault Refusal :=
  answer (zBusRead o s)

/-- BUS.CD_AB.W (R154 write). -/
def execBusCdAbW (o : BitVec 6) (v : Byte) (s : State) : Host.Outcome State Fault Refusal :=
  done (uBusWrite (cdAbTarget o) v s)

/-- BUS.CD_AB.R (R154 read). -/
def execBusCdAbR (o : BitVec 6) (s : State) : Host.Outcome State Fault Refusal :=
  answer (uBusRead (cdAbTarget o) s)

/-- BUS.CD_BA.W (R155 write). -/
def execBusCdBaW (o : BitVec 6) (v : Byte) (s : State) : Host.Outcome State Fault Refusal :=
  done (uBusWrite (cdBaTarget o) v s)

/-- BUS.CD_BA.R (R155 read). -/
def execBusCdBaR (o : BitVec 6) (s : State) : Host.Outcome State Fault Refusal :=
  answer (uBusRead (cdBaTarget o) s)

/-- BUS.BA_CD.W (R157 write). -/
def execBusBaCdW (o : BitVec 6) (v : Byte) (s : State) : Host.Outcome State Fault Refusal :=
  done (uBusWrite (baCdTarget o) v s)

/-- BUS.BA_CD.R (R157 read). -/
def execBusBaCdR (o : BitVec 6) (s : State) : Host.Outcome State Fault Refusal :=
  answer (uBusRead (baCdTarget o) s)

/-- BUS.BA_CD_INV.W (R158 write). -/
def execBusBaCdInvW (o : BitVec 6) (v : Byte) (s : State) : Host.Outcome State Fault Refusal :=
  done (uBusWrite (baCdInvTarget o) v s)

/-- BUS.BA_CD_INV.R (R158 read). -/
def execBusBaCdInvR (o : BitVec 6) (s : State) : Host.Outcome State Fault Refusal :=
  answer (uBusRead (baCdInvTarget o) s)

/-- BUS.CA.W (R159, channel A control write). -/
def execBusCaW (_o : BitVec 6) (v : Byte) (s : State) : Host.Outcome State Fault Refusal :=
  done (uBusWrite (.control .a) v s)

/-- BUS.CA.R (R159, channel A control read). -/
def execBusCaR (_o : BitVec 6) (s : State) : Host.Outcome State Fault Refusal :=
  answer (uBusRead (.control .a) s)

/-- BUS.CB.W (R159, channel B control write). -/
def execBusCbW (_o : BitVec 6) (v : Byte) (s : State) : Host.Outcome State Fault Refusal :=
  done (uBusWrite (.control .b) v s)

/-- BUS.CB.R (R159, channel B control read). -/
def execBusCbR (_o : BitVec 6) (s : State) : Host.Outcome State Fault Refusal :=
  answer (uBusRead (.control .b) s)

/-- BUS.DA.W (R159, channel A data write). -/
def execBusDaW (_o : BitVec 6) (v : Byte) (s : State) : Host.Outcome State Fault Refusal :=
  done (uBusWrite (.data .a) v s)

/-- BUS.DA.R (R159, channel A data read). -/
def execBusDaR (_o : BitVec 6) (s : State) : Host.Outcome State Fault Refusal :=
  answer (uBusRead (.data .a) s)

/-- BUS.DB.W (R159, channel B data write). -/
def execBusDbW (_o : BitVec 6) (v : Byte) (s : State) : Host.Outcome State Fault Refusal :=
  done (uBusWrite (.data .b) v s)

/-- BUS.DB.R (R159, channel B data read). -/
def execBusDbR (_o : BitVec 6) (s : State) : Host.Outcome State Fault Refusal :=
  answer (uBusRead (.data .b) s)

end Sys2Proof.Machine
end

