-- ==== Sys2Proof/Machine/Interrupts.lean ====
section
/-! DEFINITION. The controller operations (R406, R409, R411, R501): the meanings of the class 11 operations. -/

namespace Sys2Proof.Machine

/-- `irqAck()` (R409): the vector or the "no interrupt" sentinel, and the state with the slot acknowledged. -/
def irqAcknowledge (s : State) : Option Byte × State :=
  match firstPending s with
  | none => (none, s)
  | some i =>
    (if nv s.ctl.wr9 then none
     else if vis s.ctl.wr9 then some (slotVector s i)
     else some s.ctl.wr2,
     acknowledge i s)

/-- IRQSTATE (R406): returns int and blocksLower, changes nothing. -/
def execIrqState (s : State) : Host.Outcome State Fault Refusal :=
  .next (s.respond (.irqStatus (irqOutput s) (blocksLower s)))

/-- IACK (R409). -/
def execIrqAck (s : State) : Host.Outcome State Fault Refusal :=
  .next ((irqAcknowledge s).2.respond (.vector (irqAcknowledge s).1))

/-- RETI (R411): nothing; the chip needs no RETI decoding. -/
def execReti (s : State) : Host.Outcome State Fault Refusal := done s

/-- RESET (R501): the reset pin. -/
def execReset (s : State) : Host.Outcome State Fault Refusal := done (hardwareReset false s)

end Sys2Proof.Machine
end

