-- ==== Sys2Proof/Machine/LineEvents.lean ====
section
/-! DEFINITION. The line and clock events (R321, R326, R345-R348): the meanings of the class 10 operations. A clock edge on a
channel in a synchronous mode is refused (R119); every other event completes and returns nothing. -/

namespace Sys2Proof.Machine

/-- A transmit clock edge in an asynchronous mode (R321): one bit step every `mult` edges. -/
def txClockEdge (ch : ChanId) (s : State) : State :=
  let c := s.chan ch
  if mult c.wr4 ≤ c.txDiv + 1 then txBitStep ch (s.setChan ch { c with txDiv := 0 })
  else s.setChan ch { c with txDiv := c.txDiv + 1 }

/-- A receive clock edge in an asynchronous mode (R326). -/
def rxClockEdge (ch : ChanId) (s : State) : State :=
  let c := s.chan ch
  if mult c.wr4 ≤ c.rxDiv + 1 then rxBitStep ch (s.setChan ch { c with rxDiv := 0 })
  else s.setChan ch { c with rxDiv := c.rxDiv + 1 }

/-- The external/status latch after a change of a pin that WR15 enables (R345): the snapshot is RR0 after the change. -/
def latchExternal (ch : ChanId) (s : State) : State :=
  let c := s.chan ch
  if c.extLatched then s
  else
    let s1 := s.setChan ch { c with extLatched := true, extSnap := liveRR0 s.cfg c }
    if extIntEnable c.wr1 then trigger ch .ext s1 else s1

/-- The /CTS pin takes level l (R345): an asserted /CTS may release a held transmitter. -/
def ctsEvent (ch : ChanId) (l : Bool) (s : State) : State :=
  let c := s.chan ch
  let s1 := s.setChan ch { c with ctsPin := l }
  if c.ctsPin = l then s1
  else
    let s2 := if (c.wr15 &&& 0x20#8) != 0x00#8 then latchExternal ch s1 else s1
    if l then s2 else txKick ch s2

/-- The /DCD pin takes level l (R345). -/
def dcdEvent (ch : ChanId) (l : Bool) (s : State) : State :=
  let c := s.chan ch
  let s1 := s.setChan ch { c with dcdPin := l }
  if c.dcdPin = l then s1
  else if (c.wr15 &&& 0x08#8) != 0x00#8 then latchExternal ch s1 else s1

/-- The RxD pin takes level l (R346). -/
def rxdEvent (ch : ChanId) (l : Bool) (s : State) : State := s.setChan ch { s.chan ch with rxdPin := l }

/-- The /SYNC pin takes level l (R347). -/
def syncEvent (ch : ChanId) (l : Bool) (s : State) : State :=
  s.setChan ch { s.chan ch with syncPin := l, syncHunt := !l }

/-- The ring-indicator input takes level l (R348). -/
def riEvent (ch : ChanId) (l : Bool) (s : State) : State := s.setChan ch { s.chan ch with riPin := l }

/-! ### The meanings -/

/-- TXC (R321); refused in a synchronous mode (R119). -/
def execTxc (ch : ChanId) (s : State) : Host.Outcome State Fault Refusal :=
  if isSynchronous (s.chan ch).wr4 then .refused (.synchronousMode ch) else done (txClockEdge ch s)

/-- RXC (R326); refused in a synchronous mode (R119). -/
def execRxc (ch : ChanId) (s : State) : Host.Outcome State Fault Refusal :=
  if isSynchronous (s.chan ch).wr4 then .refused (.synchronousMode ch) else done (rxClockEdge ch s)

/-- RXD (R346, RxD pin level). -/
def execRxd (ch : ChanId) (l : Bool) (s : State) : Host.Outcome State Fault Refusal := done (rxdEvent ch l s)

/-- CTS (R345, /CTS pin level). -/
def execCts (ch : ChanId) (l : Bool) (s : State) : Host.Outcome State Fault Refusal := done (ctsEvent ch l s)

/-- DCD (R345, /DCD pin level). -/
def execDcd (ch : ChanId) (l : Bool) (s : State) : Host.Outcome State Fault Refusal := done (dcdEvent ch l s)

/-- SYNC (R347, /SYNC pin level). -/
def execSync (ch : ChanId) (l : Bool) (s : State) : Host.Outcome State Fault Refusal := done (syncEvent ch l s)

/-- RI (R348, ring-indicator level). -/
def execRi (ch : ChanId) (l : Bool) (s : State) : Host.Outcome State Fault Refusal := done (riEvent ch l s)

end Sys2Proof.Machine
end

