-- ==== Sys2Proof/Machine/Dispatch.lean ====
section
/-! DEFINITION. One arm per operation of the block, each a direct call of its meaning. -/

namespace Sys2Proof.Machine

def exec (i : Instr) (s : State) : Host.Outcome State Fault Refusal :=
  match i with
  | .wr0Null ch v => Sys2Proof.Machine.execWr0Null ch v s
  | .wr0PointHigh ch v => Sys2Proof.Machine.execWr0PointHigh ch v s
  | .wr0ResetExtStatus ch v => Sys2Proof.Machine.execWr0ResetExtStatus ch v s
  | .wr0SendAbort ch v => Sys2Proof.Machine.execWr0SendAbort ch v s
  | .wr0EnableIntNextRx ch v => Sys2Proof.Machine.execWr0EnableIntNextRx ch v s
  | .wr0ResetTxInt ch v => Sys2Proof.Machine.execWr0ResetTxInt ch v s
  | .wr0ErrorReset ch v => Sys2Proof.Machine.execWr0ErrorReset ch v s
  | .wr0ResetHighestIus ch v => Sys2Proof.Machine.execWr0ResetHighestIus ch v s
  | .wr1 ch v => Sys2Proof.Machine.execWr1 ch v s
  | .wr2 ch v => Sys2Proof.Machine.execWr2 ch v s
  | .wr3 ch v => Sys2Proof.Machine.execWr3 ch v s
  | .wr4 ch v => Sys2Proof.Machine.execWr4 ch v s
  | .wr5 ch v => Sys2Proof.Machine.execWr5 ch v s
  | .wr6 ch v => Sys2Proof.Machine.execWr6 ch v s
  | .wr7 ch v => Sys2Proof.Machine.execWr7 ch v s
  | .wr8 ch v => Sys2Proof.Machine.execWr8 ch v s
  | .wr9NoReset ch v => Sys2Proof.Machine.execWr9NoReset ch v s
  | .wr9ResetB ch v => Sys2Proof.Machine.execWr9ResetB ch v s
  | .wr9ResetA ch v => Sys2Proof.Machine.execWr9ResetA ch v s
  | .wr9HwReset ch v => Sys2Proof.Machine.execWr9HwReset ch v s
  | .wr10 ch v => Sys2Proof.Machine.execWr10 ch v s
  | .wr11 ch v => Sys2Proof.Machine.execWr11 ch v s
  | .wr12 ch v => Sys2Proof.Machine.execWr12 ch v s
  | .wr13 ch v => Sys2Proof.Machine.execWr13 ch v s
  | .wr14DpllNull ch v => Sys2Proof.Machine.execWr14DpllNull ch v s
  | .wr14DpllEnterSearch ch v => Sys2Proof.Machine.execWr14DpllEnterSearch ch v s
  | .wr14DpllResetMissingClock ch v => Sys2Proof.Machine.execWr14DpllResetMissingClock ch v s
  | .wr14DpllDisable ch v => Sys2Proof.Machine.execWr14DpllDisable ch v s
  | .wr14DpllSourceBrg ch v => Sys2Proof.Machine.execWr14DpllSourceBrg ch v s
  | .wr14DpllSourceRtxc ch v => Sys2Proof.Machine.execWr14DpllSourceRtxc ch v s
  | .wr14DpllFmMode ch v => Sys2Proof.Machine.execWr14DpllFmMode ch v s
  | .wr14DpllNrziMode ch v => Sys2Proof.Machine.execWr14DpllNrziMode ch v s
  | .wr15 ch v => Sys2Proof.Machine.execWr15 ch v s
  | .rr0 ch => Sys2Proof.Machine.execRr0 ch s
  | .rr1 ch => Sys2Proof.Machine.execRr1 ch s
  | .rr2 ch => Sys2Proof.Machine.execRr2 ch s
  | .rr3 ch => Sys2Proof.Machine.execRr3 ch s
  | .rr4 ch => Sys2Proof.Machine.execRr4 ch s
  | .rr5 ch => Sys2Proof.Machine.execRr5 ch s
  | .rr6 ch => Sys2Proof.Machine.execRr6 ch s
  | .rr7 ch => Sys2Proof.Machine.execRr7 ch s
  | .rr8 ch => Sys2Proof.Machine.execRr8 ch s
  | .rr9 ch => Sys2Proof.Machine.execRr9 ch s
  | .rr10 ch => Sys2Proof.Machine.execRr10 ch s
  | .rr11 ch => Sys2Proof.Machine.execRr11 ch s
  | .rr12 ch => Sys2Proof.Machine.execRr12 ch s
  | .rr13 ch => Sys2Proof.Machine.execRr13 ch s
  | .rr14 ch => Sys2Proof.Machine.execRr14 ch s
  | .rr15 ch => Sys2Proof.Machine.execRr15 ch s
  | .txc ch => Sys2Proof.Machine.execTxc ch s
  | .rxc ch => Sys2Proof.Machine.execRxc ch s
  | .rxd ch l => Sys2Proof.Machine.execRxd ch l s
  | .cts ch l => Sys2Proof.Machine.execCts ch l s
  | .dcd ch l => Sys2Proof.Machine.execDcd ch l s
  | .sync ch l => Sys2Proof.Machine.execSync ch l s
  | .ri ch l => Sys2Proof.Machine.execRi ch l s
  | .irqState => Sys2Proof.Machine.execIrqState s
  | .irqAck => Sys2Proof.Machine.execIrqAck s
  | .reti => Sys2Proof.Machine.execReti s
  | .reset => Sys2Proof.Machine.execReset s
  | .busZbusW o v => Sys2Proof.Machine.execBusZbusW o v s
  | .busZbusR o => Sys2Proof.Machine.execBusZbusR o s
  | .busCdAbW o v => Sys2Proof.Machine.execBusCdAbW o v s
  | .busCdAbR o => Sys2Proof.Machine.execBusCdAbR o s
  | .busCdBaW o v => Sys2Proof.Machine.execBusCdBaW o v s
  | .busCdBaR o => Sys2Proof.Machine.execBusCdBaR o s
  | .busBaCdW o v => Sys2Proof.Machine.execBusBaCdW o v s
  | .busBaCdR o => Sys2Proof.Machine.execBusBaCdR o s
  | .busBaCdInvW o v => Sys2Proof.Machine.execBusBaCdInvW o v s
  | .busBaCdInvR o => Sys2Proof.Machine.execBusBaCdInvR o s
  | .busCaW o v => Sys2Proof.Machine.execBusCaW o v s
  | .busCaR o => Sys2Proof.Machine.execBusCaR o s
  | .busCbW o v => Sys2Proof.Machine.execBusCbW o v s
  | .busCbR o => Sys2Proof.Machine.execBusCbR o s
  | .busDaW o v => Sys2Proof.Machine.execBusDaW o v s
  | .busDaR o => Sys2Proof.Machine.execBusDaR o s
  | .busDbW o v => Sys2Proof.Machine.execBusDbW o v s
  | .busDbR o => Sys2Proof.Machine.execBusDbR o s

end Sys2Proof.Machine
end

