-- ==== Sys2Proof/Machine/Outputs.lean ====
section
/-! DEFINITION. The output pins, functions of the state and not stored (R46, R350, R352, R407), and the level-change callbacks
the host gets after an operation, read off the two states around it (log entry 9). -/

namespace Sys2Proof.Machine

/-- /INT, active low (R407). -/
def intPin (s : State) : Bool := !irqOutput s

/-- TxD of a channel (R350). -/
def txdPin (c : Channel) : Bool := c.txd

/-- /DTR of a channel (R350). -/
def dtrPin (c : Channel) : Bool := !dtr c.wr5

/-- /RTS of a channel (R350). -/
def rtsPin (c : Channel) : Bool := !c.rtsOn

/-- The DMA request of a channel (R352); the wait function stays deasserted. -/
def wreqAsserted (cfg : Config) (c : Channel) : Bool :=
  wreqEnable c.wr1 && wreqIsRequest c.wr1 &&
    (if wreqOnReceive c.wr1 then decide (0 < c.rxq.length) else decide (c.txq.length < ntx cfg))

/-- /W//REQ of a channel (R352). -/
def wreqPin (cfg : Config) (c : Channel) : Bool := !wreqAsserted cfg c

/-- The output pins of the block. -/
inductive OutputPin where
  | int
  | txd (ch : ChanId)
  | dtr (ch : ChanId)
  | rts (ch : ChanId)
  | wreq (ch : ChanId)
  deriving DecidableEq, Repr

/-- The level of an output pin. -/
def pinLevel (s : State) : OutputPin → Bool
  | .int => intPin s
  | .txd ch => txdPin (s.chan ch)
  | .dtr ch => dtrPin (s.chan ch)
  | .rts ch => rtsPin (s.chan ch)
  | .wreq ch => wreqPin s.cfg (s.chan ch)

/-- The output pins, in the order `levelChanges` reports them. R350 and R407 give the callbacks of one operation no order: this
one, with /INT first, and the report of /W//REQ among them are the model's. DESIGN CHOICE, log entry 13. -/
def OutputPin.all : List OutputPin :=
  [.int, .txd .a, .txd .b, .dtr .a, .dtr .b, .rts .a, .rts .b, .wreq .a, .wreq .b]

/-- The level-change callbacks of an operation that takes `before` to `after` (R350, R407): each pin whose level changed, with
its new level. Only the level after the operation counts (R407). The order of the list is the model's (log entry 13). -/
def levelChanges (before after : State) : List (OutputPin × Bool) :=
  (OutputPin.all.filter fun q => pinLevel before q != pinLevel after q).map fun q => (q, pinLevel after q)

end Sys2Proof.Machine
end

