-- ==== Sys2Proof/Machine/Step.lean ====
section
/-! DEFINITION. One step of the block: the oldest operation the host has issued is taken, decoded and carried out, whole and
alone (R85, R88). A word that spells no operation is refused (R104). With nothing issued nothing happens (R13). -/

namespace Sys2Proof.Machine

/-- One step. -/
def step (s : State) : Host.Outcome State Fault Refusal :=
  match fetch s with
  | none => .next s
  | some (w, s1) =>
    match decode w with
    | .ok i => exec i s1
    | .error why => .refused (.invalidWord why)

/-- The state with the operation that the table bits `w` spell issued ahead of every other, so that the next step carries it
out (log entry 4). -/
def State.withFetchWord (s : State) (nbits w : Nat) : State := { s with pending := hostWordOf nbits w :: s.pending }

end Sys2Proof.Machine
end

