-- ==== Sys2Proof/Safety.lean ====
section
/-! DEFINITION. What a sound state of the block is: the invariant every step keeps. None of it is assumed by `exec`, which is
total; it names the states that construction and the operations lead to. -/

namespace Sys2Proof.Machine

/-- A rate is a frequency with a positive denominator, or stopped (R31). -/
def Rate.positive : Rate → Bool
  | .stopped => true
  | .hz _ den => decide (0 < den)

/-- The sound states of channel `ch`. -/
structure ChannelInv (cfg : Config) (ch : ChanId) (c : Channel) : Prop where
  /-- R301: the receive FIFO holds at most NRX entries -/
  rxFits : c.rxq.length ≤ nrx cfg
  /-- R300, R206, R523: a locked receive FIFO holds the entry that locked it. It rests on the model's reading of R300 by R523
  (log entry 8, DEDUCED) -/
  lockedHead : c.rxLocked = true → c.rxq ≠ []
  /-- R301: the transmit FIFO holds at most NTX entries -/
  txFits : c.txq.length ≤ ntx cfg
  /-- R22: WR7' holds 0 on the variants that have none -/
  noWr7p : cfg.isEscc = false → c.wr7p = 0x00#8
  /-- R22: the divisor counters are 0..63 -/
  txDivSmall : c.txDiv < 64
  rxDivSmall : c.rxDiv < 64
  /-- R312: a frame has at most a start bit, eight data bits, a parity bit and two stop bits -/
  tsrFits : c.tsr.length ≤ 12
  /-- R311: all sent means nothing is left in the shift register or the FIFO -/
  allSentEmpty : c.allSent = true → c.tsr = [] ∧ c.txq = []
  /-- R341: the pending rate is the rate of the registers as they stand -/
  pendingCurrent : c.ratePending = rateOf cfg ch c
  /-- R341: with no change outstanding the applied rate is the pending one -/
  rateSettled : c.delayedChange = false → c.rateApplied = c.ratePending
  /-- R341: a change is outstanding only while a character is in flight -/
  delayedBusy : c.delayedChange = true → c.tsr ≠ []
  /-- R31 -/
  appliedPositive : c.rateApplied.positive = true
  /-- R208, R505: the underrun latch is set by reset and nothing clears it -/
  underrunSet : c.txUnderrun = true
  /-- R39, R505: the residue code keeps its reset value -/
  residueFixed : c.residue = 0b011#3

/-- The sound states of the block. -/
structure Inv (s : State) : Prop where
  /-- R7: the frequencies and the prescale are positive -/
  cfgPositive : s.cfg.positive = true
  /-- R21: bits 7..6 of WR9 are always 0 -/
  wr9High : s.ctl.wr9 &&& 0xC0#8 = 0x00#8
  /-- R404, R408: every pending slot shows in RR3 -/
  pendingShown : ∀ i : SlotId, (s.slot i).ip = true → s.ipBit i = true
  /-- R42: the register pointer is the Universal-Bus's alone -/
  pointerUBus : s.cfg.bus = .zBus → s.ctl.ptr = 0#4
  /-- R43: the shift mode is the Z-Bus's alone -/
  shiftZBus : s.cfg.bus = .uBus → s.ctl.zshift = .left
  chanA : ChannelInv s.cfg .a s.chA
  chanB : ChannelInv s.cfg .b s.chB

/-- A clock edge on channel `ch` is carried out: the channel is in an asynchronous mode (R119). -/
def Clocked (s : State) (ch : ChanId) : Prop := isSynchronous (s.chan ch).wr4 = false

end Sys2Proof.Machine
end

