-- ==== Sys2Proof/Certificates/Slice0/Obligations.lean ====
section
/-! DEFINITION. The statements for the provers, each a `def Obligations.<Name> : Prop`, and the vocabulary they are written in
(namespace Sys2Proof.Claims). Where a statement gives the next state by an equation, the equation is its frame: what it does not
name is unchanged. The response field is the model's own (log entry 5): the equations say what an operation returns. -/

open Sys2Proof Sys2Proof.Machine

namespace Sys2Proof.Claims

/-- Carry out operations one after the other, stopping at the first that is refused. -/
def runOps : List Instr → State → Host.Outcome State Fault Refusal
  | [], s => .next s
  | i :: rest, s =>
    match exec i s with
    | .next t => runOps rest t
    | .fault f => .fault f
    | .refused r => .refused r

/-- The operation completes, leaves `t` and returns nothing. -/
def completes (t : State) : Host.Outcome State Fault Refusal := .next (t.respond .nothing)

/-- The operation completes, leaves `t` and returns the byte `v`. -/
def returns (v : Byte) (t : State) : Host.Outcome State Fault Refusal := .next (t.respond (.byte v))

/-- The rate formula of R340, written out. -/
def expectedRate (cfg : Config) (ch : ChanId) (c : Channel) : Rate :=
  if c.wr14.getLsbD 0 then
    .hz (if c.wr14.getLsbD 1 then cfg.pclkHz else match ch with | .a => cfg.rtxcHzA | .b => cfg.rtxcHzB)
      ((c.wr13.toNat * 256 + c.wr12.toNat + 2) * cfg.brgPrescale * [1, 16, 32, 64].getD (c.wr4.extractLsb' 6 2).toNat 0)
  else .stopped

/-- The channel `c` after `rateUpdate` (R341). -/
def withNewRate (cfg : Config) (ch : ChanId) (c : Channel) : Channel :=
  if c.tsr = [] then
    { c with ratePending := expectedRate cfg ch c, rateApplied := expectedRate cfg ch c, delayedChange := false }
  else { c with ratePending := expectedRate cfg ch c, delayedChange := true }

/-- The hidden part of a channel after either reset (R505); `c` is the channel before. -/
def HiddenReset (cfg : Config) (ch : ChanId) (c c' : Channel) : Prop :=
  c'.rxq = [] ∧ c'.txq = [] ∧ c'.rxLocked = false ∧ c'.tsr = [] ∧ c'.rxs = .idle ∧ c'.txDiv = 0 ∧ c'.rxDiv = 0 ∧
  c'.txUnderrun = true ∧ c'.allSent = true ∧ c'.residue = 0b011#3 ∧ c'.errBits = 0#4 ∧
  c'.extLatched = false ∧ c'.extSnap = 0x00#8 ∧ c'.rxFirstArmed = true ∧ c'.txIntDisarmed = false ∧
  c'.txd = true ∧ c'.rtsOn = false ∧ c'.rtsReleasePending = false ∧
  c'.rateApplied = expectedRate cfg ch c' ∧ c'.ratePending = expectedRate cfg ch c' ∧ c'.delayedChange = false ∧
  c'.syncHunt = c.syncHunt ∧ c'.ctsPin = c.ctsPin ∧ c'.dcdPin = c.dcdPin ∧ c'.syncPin = c.syncPin ∧
  c'.rxdPin = c.rxdPin ∧ c'.riPin = c.riPin

/-- The registers both resets treat alike (R502, R503). -/
def CommonRegsReset (cfg : Config) (c c' : Channel) : Prop :=
  c'.wr1 = c.wr1 &&& 0x24#8 ∧ c'.wr3 = c.wr3 &&& 0xFE#8 ∧ c'.wr4 = c.wr4 ||| 0x04#8 ∧ c'.wr5 = c.wr5 &&& 0x61#8 ∧
  c'.wr6 = c.wr6 ∧ c'.wr7 = c.wr7 ∧ c'.wr7p = (if cfg.isEscc then 0x20#8 else c.wr7p) ∧
  c'.wr12 = c.wr12 ∧ c'.wr13 = c.wr13 ∧ c'.wr15 = 0xF8#8

/-- A channel after a hardware reset (R502). -/
def ChannelHardwareReset (cfg : Config) (ch : ChanId) (c c' : Channel) : Prop :=
  CommonRegsReset cfg c c' ∧ c'.wr10 = 0x00#8 ∧ c'.wr11 = 0x08#8 ∧ c'.wr14 = 0x30#8 ∧ HiddenReset cfg ch c c'

/-- The block after a hardware reset (R502). -/
def HardwareReset (preserveShift : Bool) (s t : State) : Prop :=
  (∀ ch, ChannelHardwareReset s.cfg ch (s.chan ch) (t.chan ch)) ∧
  t.ctl.wr9 = s.ctl.wr9 &&& 0x03#8 ∧ (∀ i, t.slot i = ⟨false, false, .txEmpty⟩) ∧ t.ctl.ipBits = 0#6 ∧
  t.ctl.ptr = 0#4 ∧ t.ctl.zshift = (if preserveShift then s.ctl.zshift else .left) ∧ t.ctl.wr2 = s.ctl.wr2 ∧
  t.cfg = s.cfg ∧ t.pending = s.pending

/-- The block after a reset of channel `ch` (R503). -/
def ChannelReset (ch : ChanId) (s t : State) : Prop :=
  CommonRegsReset s.cfg (s.chan ch) (t.chan ch) ∧ (t.chan ch).wr10 = (s.chan ch).wr10 &&& 0x61#8 ∧
  (t.chan ch).wr11 = (s.chan ch).wr11 ∧ (t.chan ch).wr14 = ((s.chan ch).wr14 &&& 0xC3#8) ||| 0x20#8 ∧
  HiddenReset s.cfg ch (s.chan ch) (t.chan ch) ∧ t.chan ch.other = s.chan ch.other ∧
  (∀ c, t.slot (slotOf ch c) = ⟨false, false, .txEmpty⟩ ∧ t.ipBit (slotOf ch c) = false) ∧
  (∀ c, t.slot (slotOf ch.other c) = s.slot (slotOf ch.other c) ∧
    t.ipBit (slotOf ch.other c) = s.ipBit (slotOf ch.other c)) ∧
  t.ctl.wr2 = s.ctl.wr2 ∧ t.ctl.ptr = s.ctl.ptr ∧ t.ctl.zshift = s.ctl.zshift ∧
  t.cfg = s.cfg ∧ t.pending = s.pending

/-- Before construction resets the block, its drawn fields hold the draw, its input pins are at 1 and a missing WR7' is 0
(R504, R22). -/
def Drawn (d : PowerOnDraw) (s : State) : Prop :=
  s.ctl.wr2 = d.wr2 ∧ s.ctl.wr9 = d.wr9 ∧
  ∀ ch, let c := s.chan ch; let x := match ch with | .a => d.a | .b => d.b
    c.wr1 = x.wr1 ∧ c.wr3 = x.wr3 ∧ c.wr4 = x.wr4 ∧ c.wr5 = x.wr5 ∧ c.wr6 = x.wr6 ∧ c.wr7 = x.wr7 ∧
    c.wr12 = x.wr12 ∧ c.wr13 = x.wr13 ∧ c.syncHunt = x.syncHunt ∧ c.ctsPin = true ∧ c.dcdPin = true ∧
    c.syncPin = true ∧ c.rxdPin = true ∧ c.riPin = true ∧ (s.cfg.isEscc = false → c.wr7p = 0x00#8)

/-- The eight WR0 rows. -/
def wr0Rows : List (ChanId → Byte → Instr) :=
  [.wr0Null, .wr0PointHigh, .wr0ResetExtStatus, .wr0SendAbort, .wr0EnableIntNextRx, .wr0ResetTxInt, .wr0ErrorReset,
    .wr0ResetHighestIus]

/-- The eight WR14 rows. -/
def wr14Rows : List (ChanId → Byte → Instr) :=
  [.wr14DpllNull, .wr14DpllEnterSearch, .wr14DpllResetMissingClock, .wr14DpllDisable, .wr14DpllSourceBrg,
    .wr14DpllSourceRtxc, .wr14DpllFmMode, .wr14DpllNrziMode]

/-- A control port write of R152: take the pointer, clear it, write the register it names. -/
def controlPort (ch : ChanId) (v : Byte) (s : State) : State :=
  regWrite ch s.ctl.ptr v { s with ctl := { s.ctl with ptr := 0#4 } }

/-- A control port read of R152. -/
def controlPortValue (ch : ChanId) (s : State) : Byte × State :=
  regRead ch s.ctl.ptr { s with ctl := { s.ctl with ptr := 0#4 } }

/-- A write to the data port or the control port of a channel. -/
def portWrite (data : Bool) (ch : ChanId) (v : Byte) (s : State) : Host.Outcome State Fault Refusal :=
  completes (if data then dataWrite ch v s else controlPort ch v s)

/-- A read of the data port or the control port of a channel. -/
def portRead (data : Bool) (ch : ChanId) (s : State) : Host.Outcome State Fault Refusal :=
  let r := if data then dataRead ch s else controlPortValue ch s
  returns r.1 r.2

/-- Channel A when the bit is 1. -/
def aIf (b : Bool) : ChanId := if b then .a else .b

/-- The channel a register, read or event word names; bus words, WR9 and controller operations name none. -/
def namedChannel : Instr → Option ChanId
  | .wr0Null ch _ | .wr0PointHigh ch _ | .wr0ResetExtStatus ch _ | .wr0SendAbort ch _ | .wr0EnableIntNextRx ch _
  | .wr0ResetTxInt ch _ | .wr0ErrorReset ch _ | .wr0ResetHighestIus ch _ | .wr1 ch _ | .wr2 ch _ | .wr3 ch _ | .wr4 ch _
  | .wr5 ch _ | .wr6 ch _ | .wr7 ch _ | .wr8 ch _ | .wr10 ch _ | .wr11 ch _ | .wr12 ch _ | .wr13 ch _
  | .wr14DpllNull ch _ | .wr14DpllEnterSearch ch _ | .wr14DpllResetMissingClock ch _ | .wr14DpllDisable ch _
  | .wr14DpllSourceBrg ch _ | .wr14DpllSourceRtxc ch _ | .wr14DpllFmMode ch _ | .wr14DpllNrziMode ch _ | .wr15 ch _
  | .rr0 ch | .rr1 ch | .rr2 ch | .rr3 ch | .rr4 ch | .rr5 ch | .rr6 ch | .rr7 ch | .rr8 ch | .rr9 ch | .rr10 ch
  | .rr11 ch | .rr12 ch | .rr13 ch | .rr14 ch | .rr15 ch
  | .txc ch | .rxc ch | .rxd ch _ | .cts ch _ | .dcd ch _ | .sync ch _ | .ri ch _ => some ch
  | _ => none

/-- A register access of a channel, what every bus access that is not declined comes to (R150). The data port is register 8, on
both directions (R160, R161, R219, R269). -/
inductive RegAccess where
  | write (ch : ChanId) (n : BitVec 4) (v : Byte)
  | read (ch : ChanId) (n : BitVec 4)
  deriving DecidableEq, Repr

/-- The access of a register word of class 00 or 01, whatever the bus family (R100, log entry 12). -/
def wordAccess : Instr → Option RegAccess
  | .wr0Null ch v | .wr0PointHigh ch v | .wr0ResetExtStatus ch v | .wr0SendAbort ch v | .wr0EnableIntNextRx ch v
  | .wr0ResetTxInt ch v | .wr0ErrorReset ch v | .wr0ResetHighestIus ch v => some (.write ch 0#4 v)
  | .wr1 ch v => some (.write ch 1#4 v)
  | .wr2 ch v => some (.write ch 2#4 v)
  | .wr3 ch v => some (.write ch 3#4 v)
  | .wr4 ch v => some (.write ch 4#4 v)
  | .wr5 ch v => some (.write ch 5#4 v)
  | .wr6 ch v => some (.write ch 6#4 v)
  | .wr7 ch v => some (.write ch 7#4 v)
  | .wr8 ch v => some (.write ch 8#4 v)
  | .wr9NoReset ch v | .wr9ResetB ch v | .wr9ResetA ch v | .wr9HwReset ch v => some (.write ch 9#4 v)
  | .wr10 ch v => some (.write ch 10#4 v)
  | .wr11 ch v => some (.write ch 11#4 v)
  | .wr12 ch v => some (.write ch 12#4 v)
  | .wr13 ch v => some (.write ch 13#4 v)
  | .wr14DpllNull ch v | .wr14DpllEnterSearch ch v | .wr14DpllResetMissingClock ch v | .wr14DpllDisable ch v
  | .wr14DpllSourceBrg ch v | .wr14DpllSourceRtxc ch v | .wr14DpllFmMode ch v | .wr14DpllNrziMode ch v =>
    some (.write ch 14#4 v)
  | .wr15 ch v => some (.write ch 15#4 v)
  | .rr0 ch => some (.read ch 0#4)
  | .rr1 ch => some (.read ch 1#4)
  | .rr2 ch => some (.read ch 2#4)
  | .rr3 ch => some (.read ch 3#4)
  | .rr4 ch => some (.read ch 4#4)
  | .rr5 ch => some (.read ch 5#4)
  | .rr6 ch => some (.read ch 6#4)
  | .rr7 ch => some (.read ch 7#4)
  | .rr8 ch => some (.read ch 8#4)
  | .rr9 ch => some (.read ch 9#4)
  | .rr10 ch => some (.read ch 10#4)
  | .rr11 ch => some (.read ch 11#4)
  | .rr12 ch => some (.read ch 12#4)
  | .rr13 ch => some (.read ch 13#4)
  | .rr14 ch => some (.read ch 14#4)
  | .rr15 ch => some (.read ch 15#4)
  | _ => none

/-- A word of one of the eight Universal-Bus entry points: whether its offset selects the data port, the channel, and the byte
of a write (R154, R155, R157-R159). -/
def uBusPort : Instr → Option (Bool × ChanId × Option Byte)
  | .busCdAbW o v => some (o.getLsbD 1, aIf (!o.getLsbD 0), some v)
  | .busCdAbR o => some (o.getLsbD 1, aIf (!o.getLsbD 0), none)
  | .busCdBaW o v => some (o.getLsbD 1, aIf (o.getLsbD 0), some v)
  | .busCdBaR o => some (o.getLsbD 1, aIf (o.getLsbD 0), none)
  | .busBaCdW o v => some (o.getLsbD 0, aIf (o.getLsbD 1), some v)
  | .busBaCdR o => some (o.getLsbD 0, aIf (o.getLsbD 1), none)
  | .busBaCdInvW o v => some (!o.getLsbD 0, aIf (!o.getLsbD 1), some v)
  | .busBaCdInvR o => some (!o.getLsbD 0, aIf (!o.getLsbD 1), none)
  | .busCaW _ v => some (false, .a, some v)
  | .busCaR _ => some (false, .a, none)
  | .busCbW _ v => some (false, .b, some v)
  | .busCbR _ => some (false, .b, none)
  | .busDaW _ v => some (true, .a, some v)
  | .busDaR _ => some (true, .a, none)
  | .busDbW _ v => some (true, .b, some v)
  | .busDbR _ => some (true, .b, none)
  | _ => none

/-- The register access an operation comes to in state `s`, if it is one: a register word names it; a Universal-Bus access
reaches register 8 through a data port and the register the pointer names through a control port (R152, R153); a Z-Bus access
reaches the register its offset names in the shift mode (R156); an access the chip's bus family declines reaches none (R151). -/
def accessOf (s : State) (i : Instr) : Option RegAccess :=
  match i with
  | .busZbusW o v =>
    if s.cfg.bus = .zBus then some (.write (zbusChan s.ctl.zshift o) (zbusIndex s.ctl.zshift o) v) else none
  | .busZbusR o => if s.cfg.bus = .zBus then some (.read (zbusChan s.ctl.zshift o) (zbusIndex s.ctl.zshift o)) else none
  | i =>
    match uBusPort i with
    | none => wordAccess i
    | some (data, ch, value) =>
      if s.cfg.bus = .uBus then
        let n := if data then 8#4 else s.ctl.ptr
        some (match value with | some v => .write ch n v | none => .read ch n)
      else none

/-- The operation is a control access of a Universal-Bus chip (R152). -/
def IsControlAccess (s : State) (i : Instr) : Prop :=
  s.cfg.bus = .uBus ∧ ∃ ch value, uBusPort i = some (false, ch, value)

/-- The operation resets the hardware: the reset pin, the WR9 row of reset code 11, or a write that reaches WR9 with that code
on any path (R500, R216). -/
def IsHardwareReset (s : State) (i : Instr) : Prop :=
  i = .reset ∨ (∃ k v, i = .wr9HwReset k v) ∨ ∃ k v, accessOf s i = some (.write k 9#4 v) ∧ v.extractLsb' 6 2 = 0b11#2

/-- The operation resets channel `ch`: a hardware reset, the WR9 row of the channel's reset code, or a write that reaches WR9
with that code on any path (R216). -/
def ResetsChannel (s : State) (ch : ChanId) (i : Instr) : Prop :=
  IsHardwareReset s i ∨
  (∃ k v, (ch = .a ∧ i = .wr9ResetA k v) ∨ (ch = .b ∧ i = .wr9ResetB k v)) ∨
  ∃ k v, accessOf s i = some (.write k 9#4 v) ∧ v.extractLsb' 6 2 = (match ch with | .a => 0b10#2 | .b => 0b01#2)

/-- The operation is an error reset of channel `ch`: the row, or a write that reaches WR0 with command 110 on any path (R206). -/
def IsErrorReset (s : State) (ch : ChanId) (i : Instr) : Prop :=
  (∃ v, i = .wr0ErrorReset ch v) ∨ ∃ v, accessOf s i = some (.write ch 0#4 v) ∧ v.extractLsb' 3 3 = 0b110#3

/-- The operation writes the data register of channel `ch`, through its data port or as WR8 (R305, R219). -/
def IsDataWrite (s : State) (ch : ChanId) (i : Instr) : Prop := ∃ v, accessOf s i = some (.write ch 8#4 v)

/-- The operation disturbs the register pointer: a control access takes it (R152); a WR0 write sets it on a Universal-Bus chip
(R209), a register word's WR0 write among them; a hardware reset clears it (R42). -/
def DisturbsPointer (s : State) (i : Instr) : Prop :=
  IsControlAccess s i ∨ (s.cfg.bus = .uBus ∧ ∃ ch v, accessOf s i = some (.write ch 0#4 v)) ∨ IsHardwareReset s i

/-- The operation is a software acknowledge: a read that reaches RR2 or RR6 of channel B on any path, on an ESCC with WR9.D5
set (R263, R267, R527). -/
def IsSoftAck (s : State) (i : Instr) : Prop :=
  s.cfg.isEscc = true ∧ s.ctl.wr9.getLsbD 5 = true ∧
    (accessOf s i = some (.read .b 2#4) ∨ accessOf s i = some (.read .b 6#4))

end Sys2Proof.Claims

open Sys2Proof.Claims

/-! ### Encoding -/

/-- R100-R103: no bit of an operand is lost on the way through the word. -/
def Obligations.DecodeOfEncodeIsTheInstruction : Prop :=
  ∀ i : Instr, i.wellFormed = true → decode (encode i) = .ok i

/-- R104: a word that decodes has one meaning, and that meaning spells exactly this word. -/
def Obligations.EncodeOfDecodeIsTheWord : Prop :=
  ∀ (w : HostWord) (i : Instr), decode w = .ok i → i.wellFormed = true ∧ encode i = w

/-- R104: decoding is total; the invalid words are exactly those the rule lists, and a step refuses them. -/
def Obligations.InvalidWordsAreExactlyTheListedOnes : Prop :=
  (∀ w : BitVec 16,
    (w.getLsbD 13 = true ∨
      (w.extractLsb' 14 2 = 0b01#2 ∧ w.extractLsb' 0 8 ≠ 0#8) ∨
      (w.extractLsb' 14 2 = 0b10#2 ∧
        (7 ≤ (w.extractLsb' 8 4).toNat ∨ w.extractLsb' 1 7 ≠ 0#7 ∨
          ((w.extractLsb' 8 4).toNat ≤ 1 ∧ w.getLsbD 0 = true))) ∨
      (w.extractLsb' 14 2 = 0b11#2 ∧
        (w.getLsbD 12 = true ∨ w.extractLsb' 0 8 ≠ 0#8 ∨ 4 ≤ (w.extractLsb' 8 4).toNat))) ↔
    ∃ why, decode (.op w) = .error why) ∧
  (∀ w : BitVec 20,
    (9 ≤ (w.extractLsb' 16 4).toNat ∨ w.getLsbD 14 = true ∨ (w.getLsbD 15 = true ∧ w.extractLsb' 0 8 ≠ 0#8)) ↔
    ∃ why, decode (.bus w) = .error why) ∧
  (∀ w : HostWord, (∃ why, decode w = .error why) ∨ ∃! i, decode w = .ok i) ∧
  (∀ (s : State) (w : HostWord) (rest : List HostWord) (why : InvalidWord),
    s.pending = w :: rest → decode w = .error why → step s = .refused (.invalidWord why))

/-- Words the spec writes out (R100, R101, 95_test_vectors.md) decode to the operations they stand for. -/
def Obligations.WrittenOutWordsDecode : Prop :=
  decode (.op 0x0909#16) = .ok (.wr9NoReset .a 0x09#8) ∧ decode (.op 0x09C0#16) = .ok (.wr9HwReset .a 0xC0#8) ∧
  decode (.op 0x1831#16) = .ok (.wr8 .b 0x31#8) ∧ decode (.op 0x0038#16) = .ok (.wr0ResetHighestIus .a 0x38#8) ∧
  decode (.op 0x0E03#16) = .ok (.wr14DpllNull .a 0x03#8) ∧ decode (.op 0x5200#16) = .ok (.rr2 .b) ∧
  decode (.op 0x8201#16) = .ok (.rxd .a true) ∧ decode (.op 0x8100#16) = .ok (.rxc .a) ∧
  decode (.op 0xC100#16) = .ok .irqAck ∧ decode (.bus 0x1000D#20) = .ok (.busCdAbW 0#6 0x0D#8) ∧
  decode (.bus 0x03834#20) = .ok (.busZbusW 0x38#6 0x34#8) ∧ decode (.bus 0x68000#20) = .ok (.busCbR 0#6)

/-! ### The step -/

/-- R85, R88, R13: the oldest issued word is carried out, whole and alone; a word placed by `withFetchWord` is the next; with
nothing issued nothing changes. The queue is the model's own (log entry 4). -/
def Obligations.StepRunsTheDecodedOperation : Prop :=
  (∀ (s : State) (w : HostWord) (rest : List HostWord) (i : Instr),
    s.pending = w :: rest → decode w = .ok i → step s = exec i { s with pending := rest }) ∧
  (∀ (s : State) (nbits w : Nat) (i : Instr),
    decodeTableWord nbits w = some i → step (s.withFetchWord nbits w) = exec i s) ∧
  (∀ s : State, s.pending = [] → step s = .next s)

/-- R400, R104, R119: every step completes or is refused; it is refused exactly when the next word is invalid or a clock edge
comes to a channel in a synchronous mode, each by its own name. -/
def Obligations.StepIsRefusedOnlyForInvalidWordsAndSynchronousEdges : Prop :=
  ∀ s : State,
    ((∃ t, step s = .next t) ∨ ∃ r, step s = .refused r) ∧
    ∀ r : Refusal, step s = .refused r ↔
      (∃ w rest why, s.pending = w :: rest ∧ decode w = .error why ∧ r = .invalidWord why) ∨
      (∃ w rest ch, s.pending = w :: rest ∧ (decode w = .ok (.txc ch) ∨ decode w = .ok (.rxc ch)) ∧
        (s.chan ch).wr4.extractLsb' 2 2 = 0b00#2 ∧ r = .synchronousMode ch)

/-- Every step keeps the sound states sound. The clauses of `Inv` come from R7 (frequencies), R21 and R33 (WR9), R404 and R408 (RR3),
R42, R43 (pointer, shift mode), R301 (FIFO capacity), R22 (WR7', divisors), R312 (frame length), R311 (all sent), R31 and R341 (rate),
R208, R39 and R505 (underrun latch, residue code). That a locked receive FIFO is not empty (`ChannelInv.lockedHead`) rests on the
model's reading of R300 and R206 by R523 and R300's corner case: under R300's bare pseudocode it fails (log entry 8, DEDUCED). -/
def Obligations.StepKeepsTheInvariant : Prop :=
  ∀ s t : State, Inv s → step s = .next t → Inv t

/-- R504: the state after construction is sound, for all parameters R7 admits and for every draw; `State.reset` is the one of
the parameters and the draw of log entries 1 and 2. -/
def Obligations.InvariantHoldsAtReset : Prop :=
  (∀ (cfg : Config) (d : PowerOnDraw), cfg.positive = true → Inv (State.construct cfg d)) ∧ Inv State.reset

/-- R2, R47: the parameters are fixed for the life of the chip. -/
def Obligations.StepKeepsTheParameters : Prop :=
  ∀ s t : State, step s = .next t → t.cfg = s.cfg

/-! ### Reset -/

/-- R504: construction is a hardware reset over the drawn fields, for every draw; `rd A, 2` may then return any byte and
`rd A, 15` returns 0xF8. -/
def Obligations.ConstructionIsAHardwareResetOverTheDraw : Prop :=
  (∀ (d : PowerOnDraw) (s : State), Drawn d s →
    hardwareReset false s = { State.construct s.cfg d with pending := s.pending, response := s.response }) ∧
  (∀ (cfg : Config) (v : Byte), ∃ d, exec (.rr2 .a) (State.construct cfg d) = returns v (State.construct cfg d)) ∧
  (∀ (cfg : Config) (d : PowerOnDraw),
    exec (.rr15 .a) (State.construct cfg d) = returns 0xF8#8 (State.construct cfg d))

/-- R501, R502, R505: what a hardware reset leaves, and that the reset pin performs one that selects shift left. -/
def Obligations.HardwareResetLeavesTheResetValues : Prop :=
  (∀ (preserve : Bool) (s : State), HardwareReset preserve s (hardwareReset preserve s)) ∧
  (∀ s : State, ∃ t, exec .reset s = completes t ∧ HardwareReset false s t)

/-- R216: the four reset codes of a WR9 write. -/
def Obligations.Wr9WriteStoresAndResets : Prop :=
  ∀ (ch : ChanId) (v : Byte) (s : State),
    exec (.wr9NoReset ch v) s = completes { s with ctl := { s.ctl with wr9 := v &&& 0x3F#8 } } ∧
    exec (.wr9ResetB ch v) s = completes (channelReset .b { s with ctl := { s.ctl with wr9 := v &&& 0x3F#8 } }) ∧
    exec (.wr9ResetA ch v) s = completes (channelReset .a { s with ctl := { s.ctl with wr9 := v &&& 0x3F#8 } }) ∧
    ∃ k, exec (.wr9HwReset ch v) s =
        completes { hardwareReset true s with ctl := { (hardwareReset true s).ctl with wr9 := k } } ∧
      ∀ n < 8, k.getLsbD n =
        (if n = 2 ∨ n = 3 ∨ n = 4 then v.getLsbD n else if n = 0 ∨ n = 1 then s.ctl.wr9.getLsbD n else false)

/-- R503, R505: what a channel reset leaves in the channel, its slots, the other channel and the controller. -/
def Obligations.ChannelResetLeavesTheResetValues : Prop :=
  ∀ (ch : ChanId) (s : State), ChannelReset ch s (channelReset ch s) ∧ (channelReset ch s).ctl.wr9 = s.ctl.wr9

/-! ### WR0 commands -/

/-- R200, R201, R203, R210: these three commands write only the pointer (Universal-Bus) or the shift mode (Z-Bus). -/
def Obligations.NullAbortAndPointHighWriteOnlyThePointer : Prop :=
  ∀ (ch : ChanId) (v : Byte) (s : State),
    let low := (v.extractLsb' 0 3).setWidth 4
    let u := { s with ctl := { s.ctl with ptr := low } }
    let h := { s with ctl := { s.ctl with ptr := low ||| 8#4 } }
    let m : ShiftMode :=
      if v.extractLsb' 0 2 = 0b10#2 then .left else if v.extractLsb' 0 2 = 0b11#2 then .right else s.ctl.zshift
    let z := { s with ctl := { s.ctl with zshift := m } }
    (s.cfg.bus = .uBus →
      exec (.wr0Null ch v) s = completes u ∧ exec (.wr0SendAbort ch v) s = completes u ∧
      exec (.wr0PointHigh ch v) s = completes h) ∧
    (s.cfg.bus = .zBus →
      exec (.wr0Null ch v) s = completes z ∧ exec (.wr0SendAbort ch v) s = completes z ∧
      exec (.wr0PointHigh ch v) s = completes z)

/-- R208: the CRC code of a WR0 write has no effect, whatever the command; the underrun latch stays as it was. -/
def Obligations.CrcResetCodesHaveNoEffect : Prop :=
  ∀ row ∈ wr0Rows, ∀ (ch : ChanId) (v : Byte) (s : State),
    exec (row ch v) s = exec (row ch (v &&& 0x3F#8)) s ∧
    ∃ t, exec (row ch v) s = .next t ∧ ∀ c, (t.chan c).txUnderrun = (s.chan c).txUnderrun

/-- R202: reset external/status interrupts releases the latch, or re-latches and re-raises when an enabled pin moved. -/
def Obligations.ResetExtStatusReleasesOrRelatches : Prop :=
  ∀ (ch : ChanId) (v : Byte) (s : State),
    let p := clear ch .ext (wr0Pointer v s)
    let c := s.chan ch
    let live := liveRR0 s.cfg c
    let q := p.setChan ch { c with extSnap := live, extLatched := true }
    exec (.wr0ResetExtStatus ch v) s = completes (
      if c.extLatched = false then p
      else if (c.extSnap ^^^ live) &&& c.wr15 &&& 0x28#8 = 0x00#8 then p.setChan ch { c with extLatched := false }
      else if c.wr1.getLsbD 0 then trigger ch .ext q else q)

/-- R204, R205: the two commands that arm the first-character interrupt and disarm the transmit interrupt. -/
def Obligations.ArmRxAndDisarmTxCommands : Prop :=
  ∀ (ch : ChanId) (v : Byte) (s : State),
    exec (.wr0EnableIntNextRx ch v) s =
      completes ((wr0Pointer v s).setChan ch { s.chan ch with rxFirstArmed := true }) ∧
    exec (.wr0ResetTxInt ch v) s =
      completes ((clear ch .tx (wr0Pointer v s)).setChan ch { s.chan ch with txIntDisarmed := true })

/-- R206: error reset clears the error bits, discards a locked head entry, unlocks, clears the receive slot, and re-raises it
in receive mode 10 while entries remain. What a pop of a locked but empty FIFO leaves the rule does not say, and the statement
leaves it open (log entry 8). -/
def Obligations.ErrorResetFreesTheLockedEntry : Prop :=
  ∀ (ch : ChanId) (v : Byte) (s : State),
    let c := s.chan ch
    ∃ q : List RxEntry,
      (c.rxLocked = false → q = c.rxq) ∧
      (c.rxLocked = true → ∀ e rest, c.rxq = e :: rest → q = rest) ∧
      let p := clear ch .rx ((wr0Pointer v s).setChan ch { c with errBits := 0#4, rxq := q, rxLocked := false })
      exec (.wr0ErrorReset ch v) s =
        completes (if q ≠ [] ∧ c.wr1.extractLsb' 3 2 = 0b10#2 then trigger ch .rx p else p)

/-- R207, R410: the highest in-service slot alone loses its mark; with none in service nothing but the pointer changes. -/
def Obligations.ResetHighestIusClearsTheLeastInServiceSlot : Prop :=
  ∀ (ch : ChanId) (v : Byte) (s : State), ∃ t, exec (.wr0ResetHighestIus ch v) s = completes t ∧
    ((∀ i, (s.slot i).ius = false) → t = wr0Pointer v s) ∧
    (∀ i, (s.slot i).ius = true → (∀ j : SlotId, j.index < i.index → (s.slot j).ius = false) →
      t = (wr0Pointer v s).setSlot i { s.slot i with ius := false })

/-! ### WR1-WR15 -/

/-- R211, R213, R218, R220, R221, R226: the registers that are only stored. -/
def Obligations.PlainRegisterWritesStore : Prop :=
  ∀ (ch : ChanId) (v : Byte) (s : State),
    exec (.wr1 ch v) s = completes (s.setChan ch { s.chan ch with wr1 := v }) ∧
    exec (.wr2 ch v) s = completes { s with ctl := { s.ctl with wr2 := v } } ∧
    exec (.wr6 ch v) s = completes (s.setChan ch { s.chan ch with wr6 := v }) ∧
    exec (.wr10 ch v) s = completes (s.setChan ch { s.chan ch with wr10 := v }) ∧
    exec (.wr11 ch v) s = completes (s.setChan ch { s.chan ch with wr11 := v }) ∧
    exec (.wr15 ch v) s = completes (s.setChan ch { s.chan ch with wr15 := v })

/-- R212: a WR7 write reaches WR7' on an ESCC while WR15.D0 is set, WR7 otherwise. -/
def Obligations.Wr7WriteReachesWr7PrimeOnlyOnEscc : Prop :=
  ∀ (ch : ChanId) (v : Byte) (s : State),
    exec (.wr7 ch v) s = completes (s.setChan ch (
      if (s.cfg.variant = .escc ∨ s.cfg.variant = .emscc) ∧ (s.chan ch).wr15.getLsbD 0 = true then
        { s.chan ch with wr7p := v }
      else { s.chan ch with wr7 := v }))

/-- R214: the receiver control write. -/
def Obligations.Wr3WriteControlsTheReceiver : Prop :=
  ∀ (ch : ChanId) (v : Byte) (s : State),
    exec (.wr3 ch v) s = completes (s.setChan ch { s.chan ch with
      wr3 := v
      syncHunt := if v.getLsbD 4 then true else (s.chan ch).syncHunt
      rxs := if v.getLsbD 0 then (s.chan ch).rxs else .idle
      rxDiv := if v.getLsbD 0 then (s.chan ch).rxDiv else 0 })

/-- R215: an identical WR4 write is a no-op; any other resets both shift registers and the divisors and recomputes the rate,
which applies at once. -/
def Obligations.Wr4WriteResetsTheShiftRegisters : Prop :=
  ∀ (ch : ChanId) (v : Byte) (s : State),
    exec (.wr4 ch v) s = completes (
      if v = (s.chan ch).wr4 then s
      else s.setChan ch (withNewRate s.cfg ch
        { s.chan ch with wr4 := v, tsr := [], rxs := .idle, txDiv := 0, rxDiv := 0 }))

/-- R217: an identical WR5 write is a no-op; any other sets RTS, its pending release and the TxD level, then kicks the
transmitter. -/
def Obligations.Wr5WriteDrivesRtsAndTxd : Prop :=
  ∀ (ch : ChanId) (v : Byte) (s : State),
    let c := s.chan ch
    let hold := c.rtsOn && c.wr3.getLsbD 5 && !c.allSent
    exec (.wr5 ch v) s = completes (
      if v = c.wr5 then s
      else txKick ch (s.setChan ch { c with
        wr5 := v
        rtsOn := v.getLsbD 1 || hold
        rtsReleasePending := !v.getLsbD 1 && hold
        txd := if v.getLsbD 4 then false else if v.getLsbD 3 = false ∨ c.tsr = [] then true else c.txd }))

/-- R222, R223, R340, R341: a time-constant write recomputes the rate: at once when the transmitter is idle, else at the end of
the character. -/
def Obligations.TimeConstantWritesRecomputeTheRate : Prop :=
  (∀ (ch : ChanId) (v : Byte) (s : State),
    exec (.wr12 ch v) s = completes (s.setChan ch (withNewRate s.cfg ch { s.chan ch with wr12 := v })) ∧
    exec (.wr13 ch v) s = completes (s.setChan ch (withNewRate s.cfg ch { s.chan ch with wr13 := v }))) ∧
  (∀ (cfg : Config) (ch : ChanId) (c : Channel),
    rateUpdate cfg ch c = withNewRate cfg ch c ∧ rateOf cfg ch c = expectedRate cfg ch c ∧
    brgOut cfg ch c = .hz (if c.wr14.getLsbD 1 then cfg.pclkHz else match ch with | .a => cfg.rtxcHzA | .b => cfg.rtxcHzB)
      ((c.wr13.toNat * 256 + c.wr12.toNat + 2) * cfg.brgPrescale))

/-- R224, R225: the eight DPLL commands only store WR14; the enable edge and a source change recompute the rate, the disable
edge stops it. -/
def Obligations.Wr14WriteHandlesTheEnableEdges : Prop :=
  ∀ row ∈ wr14Rows, ∀ (ch : ChanId) (v : Byte) (s : State),
    let c := s.chan ch
    let old := c.wr14
    exec (row ch v) s = completes (s.setChan ch (
      if old.getLsbD 0 = false ∧ v.getLsbD 0 = true then withNewRate s.cfg ch { c with wr14 := v }
      else if old.getLsbD 0 = true ∧ v.getLsbD 0 = false then
        { c with wr14 := v, rateApplied := .stopped, ratePending := .stopped, delayedChange := false }
      else if v.getLsbD 0 = true ∧ old.getLsbD 1 ≠ v.getLsbD 1 then withNewRate s.cfg ch { c with wr14 := v }
      else { c with wr14 := v }))

/-! ### Data register and transmitter -/

/-- R305, R219: a data write with room pushes, clears all-sent, the disarm and the transmit slot; with a full FIFO it drops the
byte; either way the transmitter is kicked. -/
def Obligations.DataWritePushesOrDrops : Prop :=
  ∀ (ch : ChanId) (v : Byte) (s : State),
    let c := s.chan ch
    exec (.wr8 ch v) s = completes (dataWrite ch v s) ∧
    (c.txq.length < (if s.cfg.isEscc then 4 else 1) →
      dataWrite ch v s = txKick ch (clear ch .tx
        (s.setChan ch { c with txq := c.txq ++ [v], allSent := false, txIntDisarmed := false }))) ∧
    (¬ c.txq.length < (if s.cfg.isEscc then 4 else 1) → dataWrite ch v s = txKick ch s)

/-- R300, R269, R523: a data read: empty; special condition or locked (locks and raises); or pop. And a locked FIFO keeps its
head and its lock through every operation that is neither an error reset nor a reset of the channel. That a lock outlives a WR1
write that takes parity out of the special conditions is R523 and R300's corner case; R300's pseudocode does not test the lock
(log entry 8, DEDUCED). -/
def Obligations.DataReadPopsOrLocks : Prop :=
  (∀ (ch : ChanId) (s : State),
    let c := s.chan ch
    (c.rxq = [] → exec (.rr8 ch) s = returns 0x00#8 s) ∧
    (∀ (d e : Byte) (rest : List RxEntry), c.rxq = ⟨d, e⟩ :: rest →
      let sm : Byte := 0x60#8 ||| (if c.wr1.getLsbD 2 then 0x10#8 else 0x00#8)
      let locked := s.setChan ch { c with errBits := e.extractLsb' 4 4, rxLocked := true }
      let popped := s.setChan ch { c with errBits := e.extractLsb' 4 4, rxq := rest }
      exec (.rr8 ch) s = returns d (
        if c.rxLocked = true ∨ e &&& sm ≠ 0x00#8 then
          if c.wr1.extractLsb' 3 2 = 0b00#2 then locked else trigger ch .special locked
        else if rest = [] then clear ch .rx popped else popped))) ∧
  (∀ (i : Instr) (s t : State) (ch : ChanId) (e : RxEntry) (rest : List RxEntry),
    ¬ IsErrorReset s ch i → ¬ ResetsChannel s ch i → exec i s = .next t →
    (s.chan ch).rxLocked = true → (s.chan ch).rxq = e :: rest →
    (t.chan ch).rxLocked = true ∧ ∃ rest', (t.chan ch).rxq = e :: rest')

/-- R310, R313: a kick starts the FIFO's head exactly when the transmitter is enabled, not breaking, idle and not held by
/CTS, and then raises the transmit interrupt by the chip's policy. -/
def Obligations.TxKickStartsACharacterExactlyWhenAllowed : Prop :=
  ∀ (ch : ChanId) (s : State),
    let c := s.chan ch
    (c.txq = [] → txKick ch s = s) ∧
    (∀ (b : Byte) (rest : List Byte), c.txq = b :: rest →
      let t := s.setChan ch { c with txq := rest, tsr := frame c.wr4 c.wr5 b }
      let fire := if s.cfg.isEscc = true ∧ c.wr7p.getLsbD 5 = true then rest = []
        else c.txq.length = (if s.cfg.isEscc then 4 else 1)
      let start := c.wr5.getLsbD 3 = true ∧ c.wr5.getLsbD 4 = false ∧ c.tsr = [] ∧
        ¬(c.wr3.getLsbD 5 = true ∧ c.ctsPin = true)
      (¬start → txKick ch s = s) ∧
      (start → fire ∧ c.txIntDisarmed = false ∧ c.wr1.getLsbD 1 = true → txKick ch s = trigger ch .tx t) ∧
      (start → ¬(fire ∧ c.txIntDisarmed = false ∧ c.wr1.getLsbD 1 = true) → txKick ch s = t))

/-- R312: the layout of a frame: start bit, data bits least significant first, a parity bit that makes the count of ones even or
odd, one or two stop bits. -/
def Obligations.FrameHasTheAsynchronousLayout : Prop :=
  ∀ wr4 wr5 b : Byte,
    let k := [5, 7, 6, 8].getD (wr5.extractLsb' 5 2).toNat 0
    let p := if wr4.getLsbD 0 then 1 else 0
    let n := if wr4.extractLsb' 2 2 = 0b01#2 then 1 else 2
    let f := frame wr4 wr5 b
    f.length = 1 + k + p + n ∧ f[0]? = some false ∧ (∀ i < k, f[1 + i]? = some (b.getLsbD i)) ∧
    (wr4.getLsbD 0 = true → (((f.drop 1).take (k + 1)).count true % 2 = 0 ↔ wr4.getLsbD 1 = true)) ∧
    (∀ i < n, f[1 + k + p + i]? = some true)

/-- R311: the end of a frame applies a deferred rate, reloads from the FIFO, and reports all sent with the RTS release. -/
def Obligations.TransmitCompleteReloadsOrReportsAllSent : Prop :=
  ∀ (ch : ChanId) (s : State),
    let c := s.chan ch
    let s1 := s.setChan ch { c with
      rateApplied := if c.delayedChange then c.ratePending else c.rateApplied, delayedChange := false }
    let s2 := txKick ch s1
    let c2 := s2.chan ch
    transmitComplete ch s =
      if c.wr5.getLsbD 3 = true ∧ c.wr5.getLsbD 4 = false then
        if c2.tsr = [] ∧ c2.txq = [] then
          s2.setChan ch { c2 with
            allSent := true, rtsOn := c2.rtsOn && !c2.rtsReleasePending, rtsReleasePending := false }
        else s2
      else s1

/-- R320, R321, R119: a transmit clock edge: refused in a synchronous mode; one bit step every `mult` edges. -/
def Obligations.TransmitClockEdgeSendsOneBitEveryMultEdges : Prop :=
  ∀ (ch : ChanId) (s : State),
    let c := s.chan ch
    let m := [1, 16, 32, 64].getD (c.wr4.extractLsb' 6 2).toNat 0
    let sent := s.setChan ch { c with txDiv := 0, txd := c.tsr.headD true, tsr := c.tsr.tail }
    (c.wr4.extractLsb' 2 2 = 0b00#2 → exec (.txc ch) s = .refused (.synchronousMode ch)) ∧
    (c.wr4.extractLsb' 2 2 ≠ 0b00#2 → exec (.txc ch) s = completes (
      if c.txDiv + 1 < m then s.setChan ch { c with txDiv := c.txDiv + 1 }
      else if c.wr5.getLsbD 4 = true then s.setChan ch { c with txDiv := 0, txd := false }
      else if c.wr5.getLsbD 3 = false then s.setChan ch { c with txDiv := 0, txd := true }
      else if c.tsr.length = 1 then transmitComplete ch sent
      else sent))

/-! ### Receiver -/

/-- R325, R326, R119: a receive clock edge: refused in a synchronous mode; every `mult` edges the RxD pin is sampled and the
assembler advances. -/
def Obligations.ReceiveClockEdgeAssemblesTheCharacter : Prop :=
  ∀ (ch : ChanId) (s : State),
    let c := s.chan ch
    let b := c.rxdPin
    let m := [1, 16, 32, 64].getD (c.wr4.extractLsb' 6 2).toNat 0
    let len := [5, 7, 6, 8].getD (c.wr3.extractLsb' 6 2).toNat 0
    let bit : Byte := if b then 0x01#8 else 0x00#8
    let move := fun (x : RxState) => s.setChan ch { c with rxDiv := 0, rxs := x }
    (c.wr4.extractLsb' 2 2 = 0b00#2 → exec (.rxc ch) s = .refused (.synchronousMode ch)) ∧
    (c.wr4.extractLsb' 2 2 ≠ 0b00#2 → exec (.rxc ch) s = completes (
      if c.rxDiv + 1 < m then s.setChan ch { c with rxDiv := c.rxDiv + 1 }
      else if c.wr3.getLsbD 0 = false ∨ (c.wr3.getLsbD 5 = true ∧ c.dcdPin = true) then move .idle
      else match c.rxs with
        | .idle => if b then move .idle else move (.data 0 0x00#8)
        | .data k acc =>
          if k + 1 = len then
            if c.wr4.getLsbD 0 then move (.parity (acc ||| (bit <<< k))) else move (.stop (acc ||| (bit <<< k)) false)
          else move (.data (k + 1) (acc ||| (bit <<< k)))
        | .parity acc =>
          let odd : Bool := ((List.range len).filter fun i => acc.getLsbD i).length % 2 = 1
          move (.stop acc (b != (if c.wr4.getLsbD 1 then odd else !odd)))
        | .stop acc perr =>
          receiveData ch acc ((if perr then 0x10#8 else 0x00#8) ||| (if b then 0x00#8 else 0x40#8)) (move .idle)))

/-- R327, R301: a completed character enters the FIFO; a full FIFO keeps its head and loses its newest entry, and stays within
NRX; the receive interrupt follows the mode. -/
def Obligations.ReceiveDataPushesOrOverruns : Prop :=
  ∀ (ch : ChanId) (d e : Byte) (s : State),
    let c := s.chan ch
    let n := if s.cfg.isEscc then 8 else 3
    let q := if c.rxq.length = n then c.rxq.take (n - 1) ++ [⟨d, e ||| 0x20#8⟩] else c.rxq ++ [⟨d, e⟩]
    (receiveData ch d e s =
      if c.wr1.extractLsb' 3 2 = 0b10#2 then trigger ch .rx (s.setChan ch { c with rxq := q })
      else if c.wr1.extractLsb' 3 2 = 0b01#2 ∧ c.rxFirstArmed = true then
        trigger ch .rx (s.setChan ch { c with rxq := q, rxFirstArmed := false })
      else s.setChan ch { c with rxq := q }) ∧
    (c.rxq.length = n → q.length = n ∧ q.head? = c.rxq.head?)

/-- The serial loop: what R312 frames, R325 and R326 assemble. From an idle, enabled receiver in an asynchronous mode with the
word length of the transmitter, delivering the bits of a frame one by one on RxD, each with `mult` receive clock edges, gives
the receiver exactly the character's low bits without an error, at every clock mode, length, parity and stop-bit setting. -/
def Obligations.ReceiverRecoversEveryTransmittedCharacter : Prop :=
  ∀ (ch : ChanId) (b : Byte) (s : State),
    let c := s.chan ch
    let k := txBits c.wr5
    Clocked s ch → c.rxs = .idle → c.rxDiv = 0 → rxGated c = false → rxBits c.wr3 = k →
    runOps ((frame c.wr4 c.wr5 b).flatMap fun l => rxbit ch l (mult c.wr4)) s =
      completes (receiveData ch (b &&& (0xFF#8 >>> (8 - k))) 0x00#8 (s.setChan ch { c with rxdPin := true }))

/-! ### Lines and outputs -/

/-- R345: a change of /CTS or /DCD that WR15 enables latches RR0 once and raises EXT; an asserted /CTS kicks the
transmitter. -/
def Obligations.CtsAndDcdChangesLatchAndRaise : Prop :=
  ∀ (ch : ChanId) (l : Bool) (s : State),
    let c := s.chan ch
    let latch := fun (x : Channel) (en : Bool) =>
      let t := s.setChan ch { x with extLatched := true, extSnap := liveRR0 s.cfg x }
      if en = true ∧ c.extLatched = false then
        if c.wr1.getLsbD 0 then trigger ch .ext t else t
      else s.setChan ch x
    exec (.cts ch l) s = completes (
      if l = c.ctsPin then s
      else if l then latch { c with ctsPin := l } (c.wr15.getLsbD 5)
      else txKick ch (latch { c with ctsPin := l } (c.wr15.getLsbD 5))) ∧
    exec (.dcd ch l) s = completes (
      if l = c.dcdPin then s else latch { c with dcdPin := l } (c.wr15.getLsbD 3))

/-- R346, R347, R348: the remaining line inputs. -/
def Obligations.RxdSyncAndRiSetTheirPins : Prop :=
  ∀ (ch : ChanId) (l : Bool) (s : State),
    exec (.rxd ch l) s = completes (s.setChan ch { s.chan ch with rxdPin := l }) ∧
    exec (.sync ch l) s = completes (s.setChan ch { s.chan ch with syncPin := l, syncHunt := !l }) ∧
    exec (.ri ch l) s = completes (s.setChan ch { s.chan ch with riPin := l })

/-- R46, R350, R352, R407: the output pins. -/
def Obligations.OutputPinsFollowTheState : Prop :=
  ∀ (ch : ChanId) (s : State),
    let c := s.chan ch
    pinLevel s (.txd ch) = c.txd ∧ pinLevel s (.dtr ch) = !c.wr5.getLsbD 7 ∧ pinLevel s (.rts ch) = !c.rtsOn ∧
    (pinLevel s (.wreq ch) = false ↔
      c.wr1.getLsbD 7 = true ∧ c.wr1.getLsbD 6 = true ∧
      (if c.wr1.getLsbD 5 then c.rxq ≠ [] else c.txq.length < (if s.cfg.isEscc then 4 else 1))) ∧
    (pinLevel s .int = false ↔ (∀ i, (s.slot i).ius = false) ∧ ∃ i, (s.slot i).ip = true)

/-! ### The interrupt arbiter -/

/-- R402, R404, R405: what a trigger and a clear do to the slots and to RR3, and that they do nothing else. The source is
chosen as R404's pseudocode writes it, whether or not the slot is still pending (log entry 6). -/
def Obligations.TriggerAndClearWriteOneSlot : Prop :=
  (∀ (ch : ChanId) (t : IntType) (s : State),
    let i := slotOf ch t.condition
    let u := trigger ch t s
    (s.ctl.wr9.getLsbD 3 = false → u = s) ∧
    (s.ctl.wr9.getLsbD 3 = true →
      u.slot i = ⟨true, (s.slot i).ius,
        if t = .rx ∧ (s.slot i).src = .special then .special
        else match t with | .tx => .txEmpty | .ext => .extStatus | .rx => .rxAvailable | .special => .special⟩ ∧
      u.ctl.ipBits.getLsbD (5 - i.index) = true) ∧
    (∀ j, j ≠ i → u.slot j = s.slot j) ∧
    (∀ n < 6, n ≠ 5 - i.index → u.ctl.ipBits.getLsbD n = s.ctl.ipBits.getLsbD n) ∧
    { u with ctl := { u.ctl with slots := s.ctl.slots, ipBits := s.ctl.ipBits } } = s) ∧
  (∀ (ch : ChanId) (c : Condition) (s : State),
    let i := slotOf ch c
    let u := clear ch c s
    u.slot i = { s.slot i with ip := false } ∧ u.ctl.ipBits.getLsbD (5 - i.index) = false ∧
    (∀ j, j ≠ i → u.slot j = s.slot j) ∧
    (∀ n < 6, n ≠ 5 - i.index → u.ctl.ipBits.getLsbD n = s.ctl.ipBits.getLsbD n) ∧
    { u with ctl := { u.ctl with slots := s.ctl.slots, ipBits := s.ctl.ipBits } } = s) ∧
  (∀ (ch : ChanId) (t : IntType), (slotOf ch t.condition).index =
    (match ch with | .a => 0 | .b => 3) + (match t with | .rx | .special => 0 | .tx => 1 | .ext => 2))

/-- R406, R411: the state report and RETI change nothing; `int` needs a pending slot and none in service. -/
def Obligations.IrqStateReportsAndRetiDoesNothing : Prop :=
  (∀ s : State, ∃ int blocks : Bool, exec .irqState s = .next (s.respond (.irqStatus int blocks)) ∧
    (int = true ↔ (∀ i, (s.slot i).ius = false) ∧ ∃ i, (s.slot i).ip = true) ∧
    (blocks = true ↔ (∃ i, (s.slot i).ius = true) ∨ s.ctl.wr9.getLsbD 2 = true)) ∧
  (∀ s : State, exec .reti s = completes s)

/-- R408, R409: an acknowledge takes the pending slot of highest priority, whatever is in service, and returns its vector by
NV and VIS. -/
def Obligations.AcknowledgeTakesTheHighestPendingSlot : Prop :=
  ∀ s : State,
    ((∀ i, (s.slot i).ip = false) → exec .irqAck s = .next (s.respond (.vector none))) ∧
    (∀ i, (s.slot i).ip = true → (∀ j : SlotId, j.index < i.index → (s.slot j).ip = false) →
      exec .irqAck s = .next ((s.setSlot i ⟨false, true, (s.slot i).src⟩).respond (.vector (
        if s.ctl.wr9.getLsbD 1 then none
        else if s.ctl.wr9.getLsbD 0 then
          some (modifyVector s.cfg s.ctl.wr9 s.ctl.wr2 (if i.index < 3 then .a else .b) (s.slot i).src)
        else some s.ctl.wr2))))

/-- R414, R117: where the status code stands in the vector, bit by bit; every other bit is the vector's own. -/
def Obligations.VectorCarriesTheStatusCode : Prop :=
  ∀ (cfg : Config) (wr9 vec : Byte) (ch : ChanId) (src : Source),
    let v := modifyVector cfg wr9 vec ch src
    let code := fun n : Nat =>
      if n = 2 then decide (ch = .a)
      else if n = 1 then decide (src = .rxAvailable ∨ src = .special)
      else decide (src = .extStatus ∨ src = .special)
    (wr9.getLsbD 4 = false → ∀ n < 8,
      v.getLsbD n = if 1 ≤ n ∧ n ≤ 3 then code (n - 1) else vec.getLsbD n) ∧
    (wr9.getLsbD 4 = true → ∀ n < 8,
      v.getLsbD n = if 4 ≤ n ∧ n ≤ 6 then code (if cfg.statusHighReversed then 6 - n else n - 4) else vec.getLsbD n)

/-! ### Reads -/

/-- R260, R261: the RR0 byte bit by bit; a latched status shows the snapshot under WR15's enables, D0 and D2 stay live. -/
def Obligations.Rr0ShowsLiveOrLatchedStatus : Prop :=
  ∀ (ch : ChanId) (s : State),
    let c := s.chan ch
    let live := fun n : Nat =>
      if n = 0 then decide (c.rxq ≠ [])
      else if n = 2 then decide (c.txq.length < (if s.cfg.isEscc then 4 else 1))
      else if n = 3 then !c.dcdPin else if n = 4 then c.syncHunt else if n = 5 then !c.ctsPin
      else if n = 6 then c.txUnderrun else false
    ∃ v : Byte, exec (.rr0 ch) s = returns v s ∧
      ∀ n < 8, v.getLsbD n =
        if c.extLatched = true ∧ c.wr15.getLsbD n = true ∧ n ≠ 0 ∧ n ≠ 2 then c.extSnap.getLsbD n else live n

/-- R262, R264: RR1 is `zext(ch.allSent) | (ch.residue << 1) | (ch.errBits << 4)`, bit by bit; RR3 is `zext(ctl.ipBits)` on
channel A and 0 on channel B. -/
def Obligations.Rr1AndRr3ShowTheirBits : Prop :=
  (∀ (ch : ChanId) (s : State),
    let c := s.chan ch
    ∃ v : Byte, exec (.rr1 ch) s = returns v s ∧ v.getLsbD 0 = c.allSent ∧
      (∀ n < 3, v.getLsbD (1 + n) = c.residue.getLsbD n) ∧ (∀ n < 4, v.getLsbD (4 + n) = c.errBits.getLsbD n)) ∧
  (∀ s : State, exec (.rr3 .a) s = returns (s.ctl.ipBits.setWidth 8) s ∧ exec (.rr3 .b) s = returns 0x00#8 s)

/-- R263: RR2 of channel A is the raw vector; of channel B the vector with the status of the highest pending slot, which an
ESCC with WR9.D5 set acknowledges. -/
def Obligations.Rr2ReadsTheVectorAndMayAcknowledge : Prop :=
  ∀ s : State,
    exec (.rr2 .a) s = returns s.ctl.wr2 s ∧
    ((∀ i, (s.slot i).ip = false) →
      exec (.rr2 .b) s = returns (modifyVector s.cfg s.ctl.wr9 s.ctl.wr2 .b .special) s) ∧
    (∀ i, (s.slot i).ip = true → (∀ j : SlotId, j.index < i.index → (s.slot j).ip = false) →
      exec (.rr2 .b) s = returns
        (modifyVector s.cfg s.ctl.wr9 s.ctl.wr2 (if i.index < 3 then .a else .b) (s.slot i).src)
        (if s.cfg.isEscc = true ∧ s.ctl.wr9.getLsbD 5 = true then s.setSlot i ⟨false, true, (s.slot i).src⟩ else s))

/-- R265, R266, R270-R276: the echoes and readbacks, with and without extended read. -/
def Obligations.EchoesAndReadbacks : Prop :=
  ∀ (ch : ChanId) (s : State),
    let c := s.chan ch
    (s.cfg.isEscc = true ∧ c.wr7p.getLsbD 6 = true →
      exec (.rr4 ch) s = returns c.wr4 s ∧ exec (.rr5 ch) s = returns c.wr5 s ∧ exec (.rr9 ch) s = returns c.wr3 s ∧
      exec (.rr11 ch) s = returns c.wr10 s ∧ exec (.rr14 ch) s = returns c.wr7p s) ∧
    (¬(s.cfg.isEscc = true ∧ c.wr7p.getLsbD 6 = true) →
      exec (.rr4 ch) s = exec (.rr0 ch) s ∧ exec (.rr5 ch) s = exec (.rr1 ch) s ∧
      exec (.rr9 ch) s = exec (.rr13 ch) s ∧ exec (.rr11 ch) s = exec (.rr15 ch) s ∧
      exec (.rr14 ch) s = exec (.rr10 ch) s) ∧
    exec (.rr10 ch) s = returns 0x00#8 s ∧ exec (.rr12 ch) s = returns c.wr12 s ∧
    exec (.rr13 ch) s = returns c.wr13 s ∧ exec (.rr15 ch) s = returns c.wr15 s

/-- R267, R268, R265, R266 (the completion of these reads): RR6 is RR2 and RR7 is RR3 on every variant, and every read completes. -/
def Obligations.EveryReadCompletesAndEchoesFollowTheirTargets : Prop :=
  ∀ (ch : ChanId) (s : State),
    exec (.rr6 ch) s = exec (.rr2 ch) s ∧ exec (.rr7 ch) s = exec (.rr3 ch) s ∧
    ∀ i ∈ ([.rr0 ch, .rr1 ch, .rr2 ch, .rr3 ch, .rr4 ch, .rr5 ch, .rr6 ch, .rr7 ch, .rr8 ch, .rr9 ch, .rr10 ch, .rr11 ch,
        .rr12 ch, .rr13 ch, .rr14 ch, .rr15 ch] : List Instr),
      ∃ v t, exec i s = returns v t ∧ t.pending = s.pending ∧ t.cfg = s.cfg

/-- R161, R162: the remapped register read gives, at every index, what that index's read rule gives. -/
def Obligations.RegReadFollowsTheRemapTable : Prop :=
  ∀ (ch : ChanId) (n : BitVec 4) (s : State),
    exec (decodeRead ch n) s = returns (regRead ch n s).1 (regRead ch n s).2 ∧
    exec (decodeRead ch n) s =
      let c := s.chan ch
      let ext := s.cfg.isEscc && c.wr7p.getLsbD 6
      match n.toNat, ext with
      | 4, true => returns c.wr4 s
      | 4, false => exec (.rr0 ch) s
      | 5, true => returns c.wr5 s
      | 5, false => exec (.rr1 ch) s
      | 6, _ => exec (.rr2 ch) s
      | 7, _ => exec (.rr3 ch) s
      | 9, true => returns c.wr3 s
      | 9, false => exec (.rr13 ch) s
      | 11, true => returns c.wr10 s
      | 11, false => exec (.rr15 ch) s
      | 14, true => returns c.wr7p s
      | 14, false => exec (.rr10 ch) s
      | 0, _ => exec (.rr0 ch) s
      | 1, _ => exec (.rr1 ch) s
      | 2, _ => exec (.rr2 ch) s
      | 3, _ => exec (.rr3 ch) s
      | 8, _ => exec (.rr8 ch) s
      | 10, _ => exec (.rr10 ch) s
      | 12, _ => exec (.rr12 ch) s
      | 13, _ => exec (.rr13 ch) s
      | _, _ => exec (.rr15 ch) s

/-- R277: what is written reads back. -/
def Obligations.WrittenRegistersReadBack : Prop :=
  ∀ (ch : ChanId) (v : Byte) (s : State),
    (s.cfg.isEscc = true → (s.chan ch).wr7p.getLsbD 6 = true →
      (∃ t, exec (.wr4 ch v) s = .next t ∧ exec (.rr4 ch) t = returns v t) ∧
      (∃ t, exec (.wr5 ch v) s = .next t ∧ exec (.rr5 ch) t = returns v t) ∧
      (∃ t, exec (.wr10 ch v) s = .next t ∧ exec (.rr11 ch) t = returns v t)) ∧
    (∃ t, exec (.wr12 ch v) s = .next t ∧ exec (.rr12 ch) t = returns v t) ∧
    (∃ t, exec (.wr13 ch v) s = .next t ∧ exec (.rr13 ch) t = returns v t) ∧
    (∃ t, exec (.wr15 ch v) s = .next t ∧ exec (.rr15 ch) t = returns v t)

/-! ### The bus -/

/-- R151: an entry point of the other bus family declines: a read returns 0, a write does nothing, the pointer stays. -/
def Obligations.MismatchedEntryPointsDecline : Prop :=
  ∀ (o : BitVec 6) (v : Byte) (s : State),
    (s.cfg.bus = .uBus →
      exec (.busZbusW o v) s = completes s ∧ exec (.busZbusR o) s = returns 0x00#8 s) ∧
    (s.cfg.bus = .zBus →
      (∀ i ∈ ([.busCdAbW o v, .busCdBaW o v, .busBaCdW o v, .busBaCdInvW o v, .busCaW o v, .busCbW o v, .busDaW o v,
        .busDbW o v] : List Instr), exec i s = completes s) ∧
      (∀ i ∈ ([.busCdAbR o, .busCdBaR o, .busBaCdR o, .busBaCdInvR o, .busCaR o, .busCbR o, .busDaR o,
        .busDbR o] : List Instr), exec i s = returns 0x00#8 s))

/-- R152-R155, R157-R159: the Universal-Bus entry points reach the control or data port of the channel their offset selects. -/
def Obligations.UniversalBusEntryPointsReachTheirPorts : Prop :=
  ∀ (o : BitVec 6) (v : Byte) (s : State), s.cfg.bus = .uBus →
    exec (.busCdAbW o v) s = portWrite (o.getLsbD 1) (aIf (!o.getLsbD 0)) v s ∧
    exec (.busCdAbR o) s = portRead (o.getLsbD 1) (aIf (!o.getLsbD 0)) s ∧
    exec (.busCdBaW o v) s = portWrite (o.getLsbD 1) (aIf (o.getLsbD 0)) v s ∧
    exec (.busCdBaR o) s = portRead (o.getLsbD 1) (aIf (o.getLsbD 0)) s ∧
    exec (.busBaCdW o v) s = portWrite (o.getLsbD 0) (aIf (o.getLsbD 1)) v s ∧
    exec (.busBaCdR o) s = portRead (o.getLsbD 0) (aIf (o.getLsbD 1)) s ∧
    exec (.busBaCdInvW o v) s = portWrite (!o.getLsbD 0) (aIf (!o.getLsbD 1)) v s ∧
    exec (.busBaCdInvR o) s = portRead (!o.getLsbD 0) (aIf (!o.getLsbD 1)) s ∧
    exec (.busCaW o v) s = portWrite false .a v s ∧ exec (.busCaR o) s = portRead false .a s ∧
    exec (.busCbW o v) s = portWrite false .b v s ∧ exec (.busCbR o) s = portRead false .b s ∧
    exec (.busDaW o v) s = portWrite true .a v s ∧ exec (.busDaR o) s = portRead true .a s ∧
    exec (.busDbW o v) s = portWrite true .b v s ∧ exec (.busDbR o) s = portRead true .b s

/-- R156: the Z-Bus decode in both shift modes. -/
def Obligations.ZBusOffsetsSelectChannelAndRegister : Prop :=
  ∀ (o : BitVec 6) (v : Byte) (s : State), s.cfg.bus = .zBus →
    let left := s.ctl.zshift = .left
    let ch := if left then aIf (o.getLsbD 5) else aIf (o.getLsbD 4)
    let n := if left then o.extractLsb' 1 4 else o.extractLsb' 0 4
    exec (.busZbusW o v) s = completes (regWrite ch n v s) ∧
    exec (.busZbusR o) s = returns (regRead ch n s).1 (regRead ch n s).2

/-- R160: the register-level write dispatch does, for every index and byte, what that row's operation does; WR2 and WR9 are
reached alike through either channel, and WR8 is the data write. -/
def Obligations.RegWriteIsTheRowsOperation : Prop :=
  ∀ (ch : ChanId) (n : BitVec 4) (v : Byte) (s : State),
    exec (decodeWrite ch n v) s = completes (regWrite ch n v s) ∧
    regWrite .a 2#4 v s = regWrite .b 2#4 v s ∧ regWrite .a 9#4 v s = regWrite .b 9#4 v s ∧
    regWrite ch 8#4 v s = dataWrite ch v s

/-- R115, R121: with the pointer at 0 the two-access forms write and read the register they name, and leave what the register
rule leaves. -/
def Obligations.TwoAccessFormsReachTheNamedRegister : Prop :=
  ∀ (ch : ChanId) (n : BitVec 4) (v : Byte) (s : State), s.cfg.bus = .uBus → s.ctl.ptr = 0#4 →
    runOps (uwr ch n v) s = completes (regWrite ch n v s) ∧
    runOps (urd ch n) s = returns (regRead ch n s).1 (regRead ch n s).2

/-! ### Rules about the whole machine -/

/-- R520, R42, R151-R153, R209, R210: only control accesses, WR0 writes and hardware resets disturb the register pointer, and on
a Z-Bus chip hardware resets alone. That the register words of class 00 and 01 leave it, WR0 writes on a Universal-Bus chip apart,
is the model's reading and not in R520's list (log entry 12, DEDUCED). -/
def Obligations.PointerIsDisturbedOnlyByControlAccesses : Prop :=
  ∀ (i : Instr) (s t : State), ¬ DisturbsPointer s i → exec i s = .next t → t.ctl.ptr = s.ctl.ptr

/-- R13: an operation that names a channel leaves the other channel's record unchanged, and so does an access that reaches a
channel's register on any path, WR9 apart; a controller operation that is not a reset leaves both. -/
def Obligations.OperationsOnOneChannelLeaveTheOther : Prop :=
  (∀ (i : Instr) (s t : State) (ch : ChanId),
    namedChannel i = some ch → exec i s = .next t → t.chan ch.other = s.chan ch.other) ∧
  (∀ (i : Instr) (s t : State) (ch : ChanId) (n : BitVec 4),
    ((∃ v, accessOf s i = some (.write ch n v) ∧ n ≠ 9#4) ∨ accessOf s i = some (.read ch n)) →
      exec i s = .next t → t.chan ch.other = s.chan ch.other) ∧
  (∀ i ∈ ([.irqState, .irqAck, .reti] : List Instr), ∀ s : State, ∃ t, exec i s = .next t ∧ t.chA = s.chA ∧ t.chB = s.chB)

/-- R404, R530: while MIE is clear no operation makes a slot pending. -/
def Obligations.NothingBecomesPendingWhileMieIsClear : Prop :=
  ∀ (i : Instr) (s t : State), s.ctl.wr9.getLsbD 3 = false → exec i s = .next t →
    ∀ j, (t.slot j).ip = true → (s.slot j).ip = true

/-- R408, R409, R263, R527: a slot comes into service only by an acknowledge that found it pending: `irqAck`, or a read that
reaches RR2 or RR6 of channel B, by a register word or through any bus entry point, on an ESCC with WR9.D5 set. -/
def Obligations.SlotsEnterServiceOnlyByAcknowledge : Prop :=
  ∀ (i : Instr) (s t : State), exec i s = .next t →
    ∀ j, (t.slot j).ius = true → (s.slot j).ius = true ∨ ((s.slot j).ip = true ∧ (i = .irqAck ∨ IsSoftAck s i))

/-- R415, R32, R211: the stored vector is what a write that reaches register 2 on any path puts there, and nothing else changes
it: no interrupt, acknowledge, read, other write or reset. -/
def Obligations.StoredVectorChangesOnlyByAWr2Write : Prop :=
  ∀ (i : Instr) (s t : State), exec i s = .next t →
    (t.ctl.wr2 ≠ s.ctl.wr2 → ∃ ch, accessOf s i = some (.write ch 2#4 t.ctl.wr2)) ∧
    (∀ ch v, accessOf s i = some (.write ch 2#4 v) → t.ctl.wr2 = v)

/-- R205, R525: a disarmed transmit interrupt stays disarmed, and its slot does not become pending, until a data write to the
channel or a reset of it, on whatever path. -/
def Obligations.DisarmedTransmitInterruptStaysQuiet : Prop :=
  ∀ (i : Instr) (s t : State) (ch : ChanId), ¬ IsDataWrite s ch i → ¬ ResetsChannel s ch i → exec i s = .next t →
    (s.chan ch).txIntDisarmed = true →
    (t.chan ch).txIntDisarmed = true ∧
    ((t.slot (slotOf ch .tx)).ip = true → (s.slot (slotOf ch .tx)).ip = true)
end

