-- ==== Sys2Proof/Laws/Decode.lean ====
section
/-! SUPPORT. The fields of an assembled word, and a word as the assembly of its fields: what the round trips between decoder
and encoder rest on. -/

namespace Sys2Proof

section OpFields
variable (cls : BitVec 2) (ch : BitVec 1) (n : BitVec 4) (v : Byte)

@[simp] theorem opClass_assembled : opClass (cls ++ 0b0#1 ++ ch ++ n ++ v) = cls := by
  apply BitVec.eq_of_getLsbD_eq; intro i hi
  simp only [opClass, BitVec.getLsbD_extractLsb', BitVec.getLsbD_append]
  interval_cases i <;> simp
@[simp] theorem opReserved_assembled : opReserved (cls ++ 0b0#1 ++ ch ++ n ++ v) = false := by
  simp only [opReserved, BitVec.getLsbD_append]; simp
@[simp] theorem opChan_assembled : opChan (cls ++ 0b0#1 ++ ch ++ n ++ v) = ch.getLsbD 0 := by
  simp only [opChan, BitVec.getLsbD_append]; simp
@[simp] theorem opIndex_assembled : opIndex (cls ++ 0b0#1 ++ ch ++ n ++ v) = n := by
  apply BitVec.eq_of_getLsbD_eq; intro i hi
  simp only [opIndex, BitVec.getLsbD_extractLsb', BitVec.getLsbD_append]
  interval_cases i <;> simp
@[simp] theorem opData_assembled : opData (cls ++ 0b0#1 ++ ch ++ n ++ v) = v := by
  apply BitVec.eq_of_getLsbD_eq; intro i hi
  simp only [opData, BitVec.getLsbD_extractLsb', BitVec.getLsbD_append]
  interval_cases i <;> simp
end OpFields

/-- An operation word with `op[13] = 0` is the assembly of its fields (R100). -/
theorem opWord_of_fields (w : BitVec 16) (h : opReserved w = false) :
    opClass w ++ 0b0#1 ++ BitVec.ofBool (opChan w) ++ opIndex w ++ opData w = w := by
  apply BitVec.eq_of_getLsbD_eq; intro i hi
  simp only [opClass, opChan, opIndex, opData, BitVec.getLsbD_append, BitVec.getLsbD_extractLsb', BitVec.getLsbD_ofBool]
  interval_cases i <;> simp_all [opReserved]

section BusFields
variable (e : BitVec 4) (d : BitVec 1) (o : BitVec 6) (v : Byte)

@[simp] theorem busEntry_assembled : busEntry (e ++ d ++ 0b0#1 ++ o ++ v) = e := by
  apply BitVec.eq_of_getLsbD_eq; intro i hi
  simp only [busEntry, BitVec.getLsbD_extractLsb', BitVec.getLsbD_append]
  interval_cases i <;> simp
@[simp] theorem busIsRead_assembled : busIsRead (e ++ d ++ 0b0#1 ++ o ++ v) = d.getLsbD 0 := by
  simp only [busIsRead, BitVec.getLsbD_append]; simp
@[simp] theorem busReserved_assembled : busReserved (e ++ d ++ 0b0#1 ++ o ++ v) = false := by
  simp only [busReserved, BitVec.getLsbD_append]; simp
@[simp] theorem busOffset_assembled : busOffset (e ++ d ++ 0b0#1 ++ o ++ v) = o := by
  apply BitVec.eq_of_getLsbD_eq; intro i hi
  simp only [busOffset, BitVec.getLsbD_extractLsb', BitVec.getLsbD_append]
  interval_cases i <;> simp
@[simp] theorem busData_assembled : busData (e ++ d ++ 0b0#1 ++ o ++ v) = v := by
  apply BitVec.eq_of_getLsbD_eq; intro i hi
  simp only [busData, BitVec.getLsbD_extractLsb', BitVec.getLsbD_append]
  interval_cases i <;> simp
end BusFields

/-- A bus word with `b[14] = 0` is the assembly of its fields (R101). -/
theorem busWord_of_fields (w : BitVec 20) (h : busReserved w = false) :
    busEntry w ++ BitVec.ofBool (busIsRead w) ++ 0b0#1 ++ busOffset w ++ busData w = w := by
  apply BitVec.eq_of_getLsbD_eq; intro i hi
  simp only [busEntry, busIsRead, busOffset, busData, BitVec.getLsbD_append, BitVec.getLsbD_extractLsb',
    BitVec.getLsbD_ofBool]
  interval_cases i <;> simp_all [busReserved]

@[simp] theorem chanOfBit_bit (ch : ChanId) : chanOfBit (ch.bit.getLsbD 0) = ch := by cases ch <;> rfl
@[simp] theorem bit_chanOfBit (b : Bool) : (chanOfBit b).bit = BitVec.ofBool b := by cases b <;> rfl

end Sys2Proof
end

