-- ==== Sys2Proof/Laws/State.lean ====
section
/-! SUPPORT. What each update of the state does to each part of it, one lemma per part, so that no later proof unfolds a record
update. -/

namespace Sys2Proof.Machine

@[simp] theorem ChanId.other_other (ch : ChanId) : ch.other.other = ch := by cases ch <;> rfl
@[simp] theorem ChanId.other_ne (ch : ChanId) : ch.other ≠ ch := by cases ch <;> decide

section SetChan
variable (s : State) (ch : ChanId) (c d : Channel)
@[simp] theorem setChan_cfg : (s.setChan ch c).cfg = s.cfg := by cases ch <;> rfl
@[simp] theorem setChan_ctl : (s.setChan ch c).ctl = s.ctl := by cases ch <;> rfl
@[simp] theorem setChan_pending : (s.setChan ch c).pending = s.pending := by cases ch <;> rfl
@[simp] theorem setChan_response : (s.setChan ch c).response = s.response := by cases ch <;> rfl
@[simp] theorem setChan_chan : (s.setChan ch c).chan ch = c := by cases ch <;> rfl
@[simp] theorem setChan_chan_other : (s.setChan ch c).chan ch.other = s.chan ch.other := by cases ch <;> rfl
@[simp] theorem setChan_other_chan : (s.setChan ch.other c).chan ch = s.chan ch := by cases ch <;> rfl
theorem setChan_chan_ne {ch' : ChanId} (h : ch' ≠ ch) : (s.setChan ch c).chan ch' = s.chan ch' := by
  cases ch <;> cases ch' <;> first | rfl | exact absurd rfl h
@[simp] theorem setChan_slot (i : SlotId) : (s.setChan ch c).slot i = s.slot i := by cases ch <;> rfl
@[simp] theorem setChan_ipBit (i : SlotId) : (s.setChan ch c).ipBit i = s.ipBit i := by cases ch <;> rfl
@[simp] theorem setChan_setChan : (s.setChan ch c).setChan ch d = s.setChan ch d := by cases ch <;> rfl
@[simp] theorem setChan_self : s.setChan ch (s.chan ch) = s := by cases ch <;> rfl
end SetChan

section SetCtl
variable (s : State) (k : Controller)
@[simp] theorem setCtl_cfg : (s.setCtl k).cfg = s.cfg := rfl
@[simp] theorem setCtl_ctl : (s.setCtl k).ctl = k := rfl
@[simp] theorem setCtl_chA : (s.setCtl k).chA = s.chA := rfl
@[simp] theorem setCtl_chB : (s.setCtl k).chB = s.chB := rfl
@[simp] theorem setCtl_chan (ch : ChanId) : (s.setCtl k).chan ch = s.chan ch := by cases ch <;> rfl
@[simp] theorem setCtl_pending : (s.setCtl k).pending = s.pending := rfl
@[simp] theorem setCtl_response : (s.setCtl k).response = s.response := rfl
@[simp] theorem setCtl_setChan (ch : ChanId) (c : Channel) :
    (s.setCtl k).setChan ch c = (s.setChan ch c).setCtl k := by cases ch <;> rfl
end SetCtl

section Respond
variable (s : State) (r : Response)
@[simp] theorem respond_cfg : (s.respond r).cfg = s.cfg := rfl
@[simp] theorem respond_ctl : (s.respond r).ctl = s.ctl := rfl
@[simp] theorem respond_chA : (s.respond r).chA = s.chA := rfl
@[simp] theorem respond_chB : (s.respond r).chB = s.chB := rfl
@[simp] theorem respond_chan (ch : ChanId) : (s.respond r).chan ch = s.chan ch := by cases ch <;> rfl
@[simp] theorem respond_pending : (s.respond r).pending = s.pending := rfl
@[simp] theorem respond_response : (s.respond r).response = r := rfl
@[simp] theorem respond_slot (i : SlotId) : (s.respond r).slot i = s.slot i := rfl
@[simp] theorem respond_ipBit (i : SlotId) : (s.respond r).ipBit i = s.ipBit i := rfl
end Respond

@[simp] theorem slots_get_set (t : Slots) (i : SlotId) (x : Slot) : (t.set i x).get i = x := by cases i <;> rfl
theorem slots_get_set_ne (t : Slots) {i j : SlotId} (x : Slot) (h : j ≠ i) : (t.set i x).get j = t.get j := by
  cases i <;> cases j <;> first | rfl | exact absurd rfl h

section SetSlot
variable (s : State) (i : SlotId) (x : Slot)
@[simp] theorem setSlot_cfg : (s.setSlot i x).cfg = s.cfg := rfl
@[simp] theorem setSlot_chA : (s.setSlot i x).chA = s.chA := rfl
@[simp] theorem setSlot_chB : (s.setSlot i x).chB = s.chB := rfl
@[simp] theorem setSlot_chan (ch : ChanId) : (s.setSlot i x).chan ch = s.chan ch := by cases ch <;> rfl
@[simp] theorem setSlot_pending : (s.setSlot i x).pending = s.pending := rfl
@[simp] theorem setSlot_response : (s.setSlot i x).response = s.response := rfl
@[simp] theorem setSlot_wr2 : (s.setSlot i x).ctl.wr2 = s.ctl.wr2 := rfl
@[simp] theorem setSlot_wr9 : (s.setSlot i x).ctl.wr9 = s.ctl.wr9 := rfl
@[simp] theorem setSlot_ptr : (s.setSlot i x).ctl.ptr = s.ctl.ptr := rfl
@[simp] theorem setSlot_zshift : (s.setSlot i x).ctl.zshift = s.ctl.zshift := rfl
@[simp] theorem setSlot_ipBits : (s.setSlot i x).ctl.ipBits = s.ctl.ipBits := rfl
@[simp] theorem setSlot_ipBit (j : SlotId) : (s.setSlot i x).ipBit j = s.ipBit j := rfl
@[simp] theorem setSlot_slot : (s.setSlot i x).slot i = x := by cases i <;> rfl
theorem setSlot_slot_ne {j : SlotId} (h : j ≠ i) : (s.setSlot i x).slot j = s.slot j := by
  cases i <;> cases j <;> first | rfl | exact absurd rfl h
end SetSlot

section SetIpBit
variable (s : State) (i : SlotId) (b : Bool)
@[simp] theorem setIpBit_cfg : (s.setIpBit i b).cfg = s.cfg := rfl
@[simp] theorem setIpBit_chA : (s.setIpBit i b).chA = s.chA := rfl
@[simp] theorem setIpBit_chB : (s.setIpBit i b).chB = s.chB := rfl
@[simp] theorem setIpBit_chan (ch : ChanId) : (s.setIpBit i b).chan ch = s.chan ch := by cases ch <;> rfl
@[simp] theorem setIpBit_pending : (s.setIpBit i b).pending = s.pending := rfl
@[simp] theorem setIpBit_response : (s.setIpBit i b).response = s.response := rfl
@[simp] theorem setIpBit_wr2 : (s.setIpBit i b).ctl.wr2 = s.ctl.wr2 := rfl
@[simp] theorem setIpBit_wr9 : (s.setIpBit i b).ctl.wr9 = s.ctl.wr9 := rfl
@[simp] theorem setIpBit_ptr : (s.setIpBit i b).ctl.ptr = s.ctl.ptr := rfl
@[simp] theorem setIpBit_zshift : (s.setIpBit i b).ctl.zshift = s.ctl.zshift := rfl
@[simp] theorem setIpBit_slots : (s.setIpBit i b).ctl.slots = s.ctl.slots := rfl
@[simp] theorem setIpBit_slot (j : SlotId) : (s.setIpBit i b).slot j = s.slot j := rfl

theorem mask_set (x : BitVec 6) (i : SlotId) : ((x ||| i.mask) &&& i.mask != 0#6) = true := by
  revert x; cases i <;> decide
theorem mask_clear (x : BitVec 6) (i : SlotId) : ((x &&& ~~~i.mask) &&& i.mask != 0#6) = false := by
  revert x; cases i <;> decide
theorem mask_set_ne {i j : SlotId} (h : j ≠ i) (x : BitVec 6) : ((x ||| i.mask) &&& j.mask) = x &&& j.mask := by
  revert x; cases i <;> cases j <;> first | exact absurd rfl h | decide
theorem mask_clear_ne {i j : SlotId} (h : j ≠ i) (x : BitVec 6) : ((x &&& ~~~i.mask) &&& j.mask) = x &&& j.mask := by
  revert x; cases i <;> cases j <;> first | exact absurd rfl h | decide

@[simp] theorem setIpBit_ipBit : (s.setIpBit i b).ipBit i = b := by
  cases b
  · exact mask_clear s.ctl.ipBits i
  · exact mask_set s.ctl.ipBits i
theorem setIpBit_ipBit_ne {j : SlotId} (h : j ≠ i) : (s.setIpBit i b).ipBit j = s.ipBit j := by
  cases b
  · exact congrArg (fun x => x != 0#6) (mask_clear_ne h s.ctl.ipBits)
  · exact congrArg (fun x => x != 0#6) (mask_set_ne h s.ctl.ipBits)
end SetIpBit

end Sys2Proof.Machine
end

