-- ==== Sys2Proof/Laws/Ops.lean ====
section
/-! SUPPORT. What each shared operation can do, said once. `ArbiterOnly s t`: t differs from s in the slots' pending flags and
sources and in the RR3 bitmap alone. `ChannelOnly ch s t`: it may differ in the record of channel ch as well. -/

namespace Sys2Proof.Machine

/-- Only pending flags, sources and the RR3 bitmap may differ. -/
structure ArbiterOnly (s t : State) : Prop where
  cfg : t.cfg = s.cfg
  chan : ∀ ch, t.chan ch = s.chan ch
  pending : t.pending = s.pending
  response : t.response = s.response
  wr2 : t.ctl.wr2 = s.ctl.wr2
  wr9 : t.ctl.wr9 = s.ctl.wr9
  ptr : t.ctl.ptr = s.ctl.ptr
  zshift : t.ctl.zshift = s.ctl.zshift
  ius : ∀ i, (t.slot i).ius = (s.slot i).ius

/-- Beside what `ArbiterOnly` allows, the record of channel `ch` may differ. -/
structure ChannelOnly (ch : ChanId) (s t : State) : Prop where
  cfg : t.cfg = s.cfg
  other : t.chan ch.other = s.chan ch.other
  pending : t.pending = s.pending
  response : t.response = s.response
  wr2 : t.ctl.wr2 = s.ctl.wr2
  wr9 : t.ctl.wr9 = s.ctl.wr9
  ptr : t.ctl.ptr = s.ctl.ptr
  zshift : t.ctl.zshift = s.ctl.zshift
  ius : ∀ i, (t.slot i).ius = (s.slot i).ius

theorem ArbiterOnly.refl (s : State) : ArbiterOnly s s := by constructor <;> intros <;> rfl

theorem ArbiterOnly.trans {s t u : State} (h : ArbiterOnly s t) (k : ArbiterOnly t u) : ArbiterOnly s u where
  cfg := k.cfg.trans h.cfg
  chan ch := (k.chan ch).trans (h.chan ch)
  pending := k.pending.trans h.pending
  response := k.response.trans h.response
  wr2 := k.wr2.trans h.wr2
  wr9 := k.wr9.trans h.wr9
  ptr := k.ptr.trans h.ptr
  zshift := k.zshift.trans h.zshift
  ius i := (k.ius i).trans (h.ius i)

theorem ArbiterOnly.channelOnly {s t : State} (h : ArbiterOnly s t) (ch : ChanId) : ChannelOnly ch s t where
  cfg := h.cfg
  other := h.chan ch.other
  pending := h.pending
  response := h.response
  wr2 := h.wr2
  wr9 := h.wr9
  ptr := h.ptr
  zshift := h.zshift
  ius := h.ius

theorem ChannelOnly.refl (ch : ChanId) (s : State) : ChannelOnly ch s s := (ArbiterOnly.refl s).channelOnly ch

theorem ChannelOnly.trans {ch : ChanId} {s t u : State} (h : ChannelOnly ch s t) (k : ChannelOnly ch t u) :
    ChannelOnly ch s u where
  cfg := k.cfg.trans h.cfg
  other := k.other.trans h.other
  pending := k.pending.trans h.pending
  response := k.response.trans h.response
  wr2 := k.wr2.trans h.wr2
  wr9 := k.wr9.trans h.wr9
  ptr := k.ptr.trans h.ptr
  zshift := k.zshift.trans h.zshift
  ius i := (k.ius i).trans (h.ius i)

theorem setChan_channelOnly (s : State) (ch : ChanId) (c : Channel) : ChannelOnly ch s (s.setChan ch c) := by
  constructor <;> intros <;> simp

/-! ### The arbiter -/

theorem setSlot_ius (s : State) (i j : SlotId) (x : Slot) (h : x.ius = (s.slot i).ius) :
    ((s.setSlot i x).slot j).ius = (s.slot j).ius := by
  by_cases e : j = i
  · subst e; simpa using h
  · rw [setSlot_slot_ne s i x e]

/-- A trigger is dropped without MIE (R404). -/
theorem trigger_of_mie_clear {s : State} (h : mie s.ctl.wr9 = false) (ch : ChanId) (t : IntType) :
    trigger ch t s = s := by simp [trigger, h]

theorem trigger_arbiterOnly (ch : ChanId) (t : IntType) (s : State) : ArbiterOnly s (trigger ch t s) := by
  unfold trigger
  split
  · constructor <;> intros <;> simp
    exact setSlot_ius _ _ _ _ rfl
  · exact .refl s

theorem clear_arbiterOnly (ch : ChanId) (c : Condition) (s : State) : ArbiterOnly s (clear ch c s) := by
  unfold clear
  constructor <;> intros <;> simp
  exact setSlot_ius _ _ _ _ rfl

@[simp] theorem trigger_chan (ch ch' : ChanId) (t : IntType) (s : State) : (trigger ch t s).chan ch' = s.chan ch' :=
  (trigger_arbiterOnly ch t s).chan ch'
@[simp] theorem trigger_cfg (ch : ChanId) (t : IntType) (s : State) : (trigger ch t s).cfg = s.cfg :=
  (trigger_arbiterOnly ch t s).cfg
@[simp] theorem trigger_wr9 (ch : ChanId) (t : IntType) (s : State) : (trigger ch t s).ctl.wr9 = s.ctl.wr9 :=
  (trigger_arbiterOnly ch t s).wr9
@[simp] theorem clear_chan (ch ch' : ChanId) (c : Condition) (s : State) : (clear ch c s).chan ch' = s.chan ch' :=
  (clear_arbiterOnly ch c s).chan ch'
@[simp] theorem clear_cfg (ch : ChanId) (c : Condition) (s : State) : (clear ch c s).cfg = s.cfg :=
  (clear_arbiterOnly ch c s).cfg
@[simp] theorem clear_wr9 (ch : ChanId) (c : Condition) (s : State) : (clear ch c s).ctl.wr9 = s.ctl.wr9 :=
  (clear_arbiterOnly ch c s).wr9

/-- Slots other than the triggered one keep everything. -/
theorem trigger_slot_ne {ch : ChanId} {t : IntType} {i : SlotId} (h : i ≠ slotOf ch t.condition) (s : State) :
    (trigger ch t s).slot i = s.slot i := by
  unfold trigger
  split
  · simp [setSlot_slot_ne _ _ _ h]
  · rfl

/-- Slots other than the cleared one keep everything. -/
theorem clear_slot_ne {ch : ChanId} {c : Condition} {i : SlotId} (h : i ≠ slotOf ch c) (s : State) :
    (clear ch c s).slot i = s.slot i := by
  simp [clear, setSlot_slot_ne _ _ _ h]

/-- The cleared slot keeps its in-service mark and its source (R405). -/
@[simp] theorem clear_slot (ch : ChanId) (c : Condition) (s : State) :
    (clear ch c s).slot (slotOf ch c) = { s.slot (slotOf ch c) with ip := false } := by simp [clear]

/-- The triggered slot is pending (R404). -/
theorem trigger_slot_ip {ch : ChanId} {t : IntType} {s : State} (h : mie s.ctl.wr9 = true) :
    ((trigger ch t s).slot (slotOf ch t.condition)).ip = true := by simp [trigger, h]

/-- A statement about every slot is one about the six slots. -/
theorem forall_slot {q : SlotId → Prop} :
    (∀ i, q i) ↔ q .aRx ∧ q .aTx ∧ q .aExt ∧ q .bRx ∧ q .bTx ∧ q .bExt :=
  ⟨fun h => ⟨h _, h _, h _, h _, h _, h _⟩, fun ⟨a, b, c, d, e, f⟩ i => by cases i <;> assumption⟩

/-- The search in priority order finds the slot of highest priority (R402). -/
theorem find_slot_eq_some (p : SlotId → Bool) (i : SlotId) :
    SlotId.all.find? p = some i ↔ p i = true ∧ ∀ j : SlotId, j.index < i.index → p j = false := by
  rw [forall_slot]
  cases h0 : p .aRx <;> cases h1 : p .aTx <;> cases h2 : p .aExt <;> cases h3 : p .bRx <;> cases h4 : p .bTx <;>
    cases h5 : p .bExt <;> cases i <;> simp [SlotId.all, SlotId.index, List.find?, h0, h1, h2, h3, h4, h5]

/-- What `firstPending` finds is pending, and nothing of higher priority is (R409). -/
theorem firstPending_eq_some {s : State} {i : SlotId} :
    firstPending s = some i ↔ (s.slot i).ip = true ∧ ∀ j : SlotId, j.index < i.index → (s.slot j).ip = false :=
  find_slot_eq_some _ i

/-- What `firstInService` finds is in service, and nothing of higher priority is (R410). -/
theorem firstInService_eq_some {s : State} {i : SlotId} :
    firstInService s = some i ↔ (s.slot i).ius = true ∧ ∀ j : SlotId, j.index < i.index → (s.slot j).ius = false :=
  find_slot_eq_some _ i

theorem firstPending_eq_none {s : State} : firstPending s = none ↔ ∀ i : SlotId, (s.slot i).ip = false := by
  unfold firstPending
  rw [List.find?_eq_none]
  exact ⟨fun h i => by simpa using h i (by cases i <;> simp [SlotId.all]), fun h i _ => by simp [h i]⟩

theorem firstInService_eq_none {s : State} : firstInService s = none ↔ ∀ i : SlotId, (s.slot i).ius = false := by
  unfold firstInService
  rw [List.find?_eq_none]
  exact ⟨fun h i => by simpa using h i (by cases i <;> simp [SlotId.all]), fun h i _ => by simp [h i]⟩

/-! ### The rate -/

/-- A rate update changes the rate state alone. -/
theorem rateUpdate_frame (cfg : Config) (ch : ChanId) (c : Channel) :
    rateUpdate cfg ch c =
      { c with
        ratePending := rateOf cfg ch c
        rateApplied := if c.tsr.isEmpty then rateOf cfg ch c else c.rateApplied
        delayedChange := !c.tsr.isEmpty } := by
  unfold rateUpdate
  cases h : c.tsr <;> simp

/-! ### The transmitter -/

theorem txIntCheck_arbiterOnly (ch : ChanId) (full : Bool) (s : State) : ArbiterOnly s (txIntCheck ch full s) := by
  simp only [txIntCheck]
  split
  · split
    · exact trigger_arbiterOnly ch .tx s
    · exact .refl s
  · split
    · exact trigger_arbiterOnly ch .tx s
    · exact .refl s

@[simp] theorem txIntCheck_chan (ch ch' : ChanId) (full : Bool) (s : State) :
    (txIntCheck ch full s).chan ch' = s.chan ch' := (txIntCheck_arbiterOnly ch full s).chan ch'

/-- The channel after a kick: the head of the FIFO, if any, moves to the shift register when the transmitter may start. -/
def kickedChannel (c : Channel) : Channel :=
  match c.txq with
  | [] => c
  | b :: rest => if canStart c then { c with txq := rest, tsr := frame c.wr4 c.wr5 b } else c

@[simp] theorem txKick_chan (ch : ChanId) (s : State) : (txKick ch s).chan ch = kickedChannel (s.chan ch) := by
  unfold txKick kickedChannel
  cases h : (s.chan ch).txq with
  | nil => simp [h]
  | cons b rest =>
    simp only [h]
    split <;> simp

theorem txKick_channelOnly (ch : ChanId) (s : State) : ChannelOnly ch s (txKick ch s) := by
  simp only [txKick]
  split
  · exact .refl ch s
  · split
    · exact (setChan_channelOnly s ch _).trans ((txIntCheck_arbiterOnly ch _ _).channelOnly ch)
    · exact .refl ch s

theorem transmitComplete_channelOnly (ch : ChanId) (s : State) : ChannelOnly ch s (transmitComplete ch s) := by
  have h1 := setChan_channelOnly s ch (applyDelayedRate (s.chan ch))
  have h2 := h1.trans (txKick_channelOnly ch _)
  unfold transmitComplete
  dsimp only
  split
  · split
    · exact h2.trans (setChan_channelOnly _ ch _)
    · exact h2
  · exact h1

theorem txBitStep_channelOnly (ch : ChanId) (s : State) : ChannelOnly ch s (txBitStep ch s) := by
  simp only [txBitStep]
  split
  · exact setChan_channelOnly s ch _
  · split
    · exact setChan_channelOnly s ch _
    · split
      · exact setChan_channelOnly s ch _
      · exact (setChan_channelOnly s ch _).trans (transmitComplete_channelOnly ch _)
      · exact setChan_channelOnly s ch _

theorem dataBits_length (b : Byte) (k : Nat) : (dataBits b k).length = k := by simp [dataBits]

/-! ### The receiver and the data register -/

theorem receiveData_channelOnly (ch : ChanId) (d e : Byte) (s : State) : ChannelOnly ch s (receiveData ch d e s) := by
  simp only [receiveData]
  repeat' split
  · exact (setChan_channelOnly s ch _).trans ((trigger_arbiterOnly ch .rx _).channelOnly ch)
  · exact (setChan_channelOnly s ch _).trans ((trigger_arbiterOnly ch .rx _).channelOnly ch)
  · exact setChan_channelOnly s ch _
  · exact setChan_channelOnly s ch _

theorem rxBitStep_channelOnly (ch : ChanId) (s : State) : ChannelOnly ch s (rxBitStep ch s) := by
  simp only [rxBitStep]
  split
  · exact setChan_channelOnly s ch _
  · split
    · split
      · exact .refl ch s
      · exact setChan_channelOnly s ch _
    · split
      · exact setChan_channelOnly s ch _
      · exact setChan_channelOnly s ch _
    · exact setChan_channelOnly s ch _
    · exact (setChan_channelOnly s ch _).trans (receiveData_channelOnly ch _ _ _)

theorem dataRead_channelOnly (ch : ChanId) (s : State) : ChannelOnly ch s (dataRead ch s).2 := by
  simp only [dataRead]
  split
  · exact .refl ch s
  · split
    · simp only
      split
      · exact setChan_channelOnly s ch _
      · exact (setChan_channelOnly s ch _).trans ((trigger_arbiterOnly ch .special _).channelOnly ch)
    · simp only
      split
      · exact (setChan_channelOnly s ch _).trans ((clear_arbiterOnly ch .rx _).channelOnly ch)
      · exact setChan_channelOnly s ch _

/-- A data read advances no locked FIFO and frees none (R300, R523). -/
theorem dataRead_of_locked {ch : ChanId} {s : State} (h : (s.chan ch).rxLocked = true) :
    ((dataRead ch s).2.chan ch).rxq = (s.chan ch).rxq ∧ ((dataRead ch s).2.chan ch).rxLocked = true := by
  simp only [dataRead, h, Bool.true_or, if_true]
  split
  · exact ⟨rfl, h⟩
  · simp only
    split <;> simp

theorem dataWrite_channelOnly (ch : ChanId) (v : Byte) (s : State) : ChannelOnly ch s (dataWrite ch v s) := by
  simp only [dataWrite]
  split
  · exact ((setChan_channelOnly s ch _).trans ((clear_arbiterOnly ch .tx _).channelOnly ch)).trans
      (txKick_channelOnly ch _)
  · exact txKick_channelOnly ch s

/-- A completed character never overfills the receive FIFO (R301, R327). -/
theorem pushRx_length (cfg : Config) (q : List RxEntry) (d e : Byte) (h : q.length ≤ nrx cfg) :
    (pushRx cfg q d e).length ≤ nrx cfg := by
  have : 0 < nrx cfg := by unfold nrx; split <;> decide
  unfold pushRx replaceLast
  split <;> simp <;> omega

end Sys2Proof.Machine
end

