-- ==== Sys2Proof/Laws/PerInstr.lean ====
section
/-! SUPPORT. Family TableRow: the word of every well-formed instruction is a word of its row of spec/opcode_table.json (its
bits under the row's mask are the row's match). -/

namespace Sys2Proof.Laws.TableRow

/-- A row's match and mask. -/
inductive Pattern where
  | op (bits mask : BitVec 16)
  | bus (bits mask : BitVec 20)

/-- The word is a word of the row. -/
def Pattern.fits : Pattern → HostWord → Bool
  | .op b m, .op w => w &&& m == b
  | .bus b m, .bus w => w &&& m == b
  | .op _ _, .bus _ => false
  | .bus _ _, .op _ => false

/-- The row's match and mask, as spec/opcode_table.json has them. -/
def row : Instr → Pattern
  | .wr0Null _ _ => .op 0x0000#16 0xEF38#16
  | .wr0PointHigh _ _ => .op 0x0008#16 0xEF38#16
  | .wr0ResetExtStatus _ _ => .op 0x0010#16 0xEF38#16
  | .wr0SendAbort _ _ => .op 0x0018#16 0xEF38#16
  | .wr0EnableIntNextRx _ _ => .op 0x0020#16 0xEF38#16
  | .wr0ResetTxInt _ _ => .op 0x0028#16 0xEF38#16
  | .wr0ErrorReset _ _ => .op 0x0030#16 0xEF38#16
  | .wr0ResetHighestIus _ _ => .op 0x0038#16 0xEF38#16
  | .wr1 _ _ => .op 0x0100#16 0xEF00#16
  | .wr2 _ _ => .op 0x0200#16 0xEF00#16
  | .wr3 _ _ => .op 0x0300#16 0xEF00#16
  | .wr4 _ _ => .op 0x0400#16 0xEF00#16
  | .wr5 _ _ => .op 0x0500#16 0xEF00#16
  | .wr6 _ _ => .op 0x0600#16 0xEF00#16
  | .wr7 _ _ => .op 0x0700#16 0xEF00#16
  | .wr8 _ _ => .op 0x0800#16 0xEF00#16
  | .wr9NoReset _ _ => .op 0x0900#16 0xEFC0#16
  | .wr9ResetB _ _ => .op 0x0940#16 0xEFC0#16
  | .wr9ResetA _ _ => .op 0x0980#16 0xEFC0#16
  | .wr9HwReset _ _ => .op 0x09C0#16 0xEFC0#16
  | .wr10 _ _ => .op 0x0A00#16 0xEF00#16
  | .wr11 _ _ => .op 0x0B00#16 0xEF00#16
  | .wr12 _ _ => .op 0x0C00#16 0xEF00#16
  | .wr13 _ _ => .op 0x0D00#16 0xEF00#16
  | .wr14DpllNull _ _ => .op 0x0E00#16 0xEFE0#16
  | .wr14DpllEnterSearch _ _ => .op 0x0E20#16 0xEFE0#16
  | .wr14DpllResetMissingClock _ _ => .op 0x0E40#16 0xEFE0#16
  | .wr14DpllDisable _ _ => .op 0x0E60#16 0xEFE0#16
  | .wr14DpllSourceBrg _ _ => .op 0x0E80#16 0xEFE0#16
  | .wr14DpllSourceRtxc _ _ => .op 0x0EA0#16 0xEFE0#16
  | .wr14DpllFmMode _ _ => .op 0x0EC0#16 0xEFE0#16
  | .wr14DpllNrziMode _ _ => .op 0x0EE0#16 0xEFE0#16
  | .wr15 _ _ => .op 0x0F00#16 0xEF00#16
  | .rr0 _ => .op 0x4000#16 0xEFFF#16
  | .rr1 _ => .op 0x4100#16 0xEFFF#16
  | .rr2 _ => .op 0x4200#16 0xEFFF#16
  | .rr3 _ => .op 0x4300#16 0xEFFF#16
  | .rr4 _ => .op 0x4400#16 0xEFFF#16
  | .rr5 _ => .op 0x4500#16 0xEFFF#16
  | .rr6 _ => .op 0x4600#16 0xEFFF#16
  | .rr7 _ => .op 0x4700#16 0xEFFF#16
  | .rr8 _ => .op 0x4800#16 0xEFFF#16
  | .rr9 _ => .op 0x4900#16 0xEFFF#16
  | .rr10 _ => .op 0x4A00#16 0xEFFF#16
  | .rr11 _ => .op 0x4B00#16 0xEFFF#16
  | .rr12 _ => .op 0x4C00#16 0xEFFF#16
  | .rr13 _ => .op 0x4D00#16 0xEFFF#16
  | .rr14 _ => .op 0x4E00#16 0xEFFF#16
  | .rr15 _ => .op 0x4F00#16 0xEFFF#16
  | .txc _ => .op 0x8000#16 0xEFFF#16
  | .rxc _ => .op 0x8100#16 0xEFFF#16
  | .rxd _ _ => .op 0x8200#16 0xEFFE#16
  | .cts _ _ => .op 0x8300#16 0xEFFE#16
  | .dcd _ _ => .op 0x8400#16 0xEFFE#16
  | .sync _ _ => .op 0x8500#16 0xEFFE#16
  | .ri _ _ => .op 0x8600#16 0xEFFE#16
  | .irqState => .op 0xC000#16 0xFFFF#16
  | .irqAck => .op 0xC100#16 0xFFFF#16
  | .reti => .op 0xC200#16 0xFFFF#16
  | .reset => .op 0xC300#16 0xFFFF#16
  | .busZbusW _ _ => .bus 0x00000#20 0xFC000#20
  | .busZbusR _ => .bus 0x08000#20 0xFC0FF#20
  | .busCdAbW _ _ => .bus 0x10000#20 0xFC000#20
  | .busCdAbR _ => .bus 0x18000#20 0xFC0FF#20
  | .busCdBaW _ _ => .bus 0x20000#20 0xFC000#20
  | .busCdBaR _ => .bus 0x28000#20 0xFC0FF#20
  | .busBaCdW _ _ => .bus 0x30000#20 0xFC000#20
  | .busBaCdR _ => .bus 0x38000#20 0xFC0FF#20
  | .busBaCdInvW _ _ => .bus 0x40000#20 0xFC000#20
  | .busBaCdInvR _ => .bus 0x48000#20 0xFC0FF#20
  | .busCaW _ _ => .bus 0x50000#20 0xFC000#20
  | .busCaR _ => .bus 0x58000#20 0xFC0FF#20
  | .busCbW _ _ => .bus 0x60000#20 0xFC000#20
  | .busCbR _ => .bus 0x68000#20 0xFC0FF#20
  | .busDaW _ _ => .bus 0x70000#20 0xFC000#20
  | .busDaR _ => .bus 0x78000#20 0xFC0FF#20
  | .busDbW _ _ => .bus 0x80000#20 0xFC000#20
  | .busDbR _ => .bus 0x88000#20 0xFC0FF#20

/-- The word of a well-formed instruction is a word of its row. -/
def Statement (i : Instr) : Prop := i.wellFormed = true → (row i).fits (encode i) = true

/-- Of a bus word, the mask of a write row keeps entry point, direction and the reserved bit. -/
theorem busWriteWord_masked (e : BitVec 4) (o : BitVec 6) (v : Byte) :
    (e ++ 0b0#1 ++ 0b0#1 ++ o ++ v) &&& 0xFC000#20 = e ++ 0#16 := by
  apply BitVec.eq_of_getLsbD_eq
  intro i hi
  simp only [BitVec.getLsbD_and, BitVec.getLsbD_append]
  interval_cases i <;> simp

/-- Of a bus word, the mask of a read row keeps everything but the offset. -/
theorem busReadWord_masked (e : BitVec 4) (o : BitVec 6) :
    (e ++ 0b1#1 ++ 0b0#1 ++ o ++ 0x00#8) &&& 0xFC0FF#20 = e ++ 0x8000#16 := by
  apply BitVec.eq_of_getLsbD_eq
  intro i hi
  simp only [BitVec.getLsbD_and, BitVec.getLsbD_append]
  interval_cases i <;> simp

theorem wr0Null (ch : ChanId) (v : Byte) : Statement (.wr0Null ch v) :=
  by unfold Statement; revert v; cases ch <;> decide
theorem wr0PointHigh (ch : ChanId) (v : Byte) : Statement (.wr0PointHigh ch v) :=
  by unfold Statement; revert v; cases ch <;> decide
theorem wr0ResetExtStatus (ch : ChanId) (v : Byte) : Statement (.wr0ResetExtStatus ch v) :=
  by unfold Statement; revert v; cases ch <;> decide
theorem wr0SendAbort (ch : ChanId) (v : Byte) : Statement (.wr0SendAbort ch v) :=
  by unfold Statement; revert v; cases ch <;> decide
theorem wr0EnableIntNextRx (ch : ChanId) (v : Byte) : Statement (.wr0EnableIntNextRx ch v) :=
  by unfold Statement; revert v; cases ch <;> decide
theorem wr0ResetTxInt (ch : ChanId) (v : Byte) : Statement (.wr0ResetTxInt ch v) :=
  by unfold Statement; revert v; cases ch <;> decide
theorem wr0ErrorReset (ch : ChanId) (v : Byte) : Statement (.wr0ErrorReset ch v) :=
  by unfold Statement; revert v; cases ch <;> decide
theorem wr0ResetHighestIus (ch : ChanId) (v : Byte) : Statement (.wr0ResetHighestIus ch v) :=
  by unfold Statement; revert v; cases ch <;> decide
theorem wr1 (ch : ChanId) (v : Byte) : Statement (.wr1 ch v) :=
  by unfold Statement; revert v; cases ch <;> decide
theorem wr2 (ch : ChanId) (v : Byte) : Statement (.wr2 ch v) :=
  by unfold Statement; revert v; cases ch <;> decide
theorem wr3 (ch : ChanId) (v : Byte) : Statement (.wr3 ch v) :=
  by unfold Statement; revert v; cases ch <;> decide
theorem wr4 (ch : ChanId) (v : Byte) : Statement (.wr4 ch v) :=
  by unfold Statement; revert v; cases ch <;> decide
theorem wr5 (ch : ChanId) (v : Byte) : Statement (.wr5 ch v) :=
  by unfold Statement; revert v; cases ch <;> decide
theorem wr6 (ch : ChanId) (v : Byte) : Statement (.wr6 ch v) :=
  by unfold Statement; revert v; cases ch <;> decide
theorem wr7 (ch : ChanId) (v : Byte) : Statement (.wr7 ch v) :=
  by unfold Statement; revert v; cases ch <;> decide
theorem wr8 (ch : ChanId) (v : Byte) : Statement (.wr8 ch v) :=
  by unfold Statement; revert v; cases ch <;> decide
theorem wr9NoReset (ch : ChanId) (v : Byte) : Statement (.wr9NoReset ch v) :=
  by unfold Statement; revert v; cases ch <;> decide
theorem wr9ResetB (ch : ChanId) (v : Byte) : Statement (.wr9ResetB ch v) :=
  by unfold Statement; revert v; cases ch <;> decide
theorem wr9ResetA (ch : ChanId) (v : Byte) : Statement (.wr9ResetA ch v) :=
  by unfold Statement; revert v; cases ch <;> decide
theorem wr9HwReset (ch : ChanId) (v : Byte) : Statement (.wr9HwReset ch v) :=
  by unfold Statement; revert v; cases ch <;> decide
theorem wr10 (ch : ChanId) (v : Byte) : Statement (.wr10 ch v) :=
  by unfold Statement; revert v; cases ch <;> decide
theorem wr11 (ch : ChanId) (v : Byte) : Statement (.wr11 ch v) :=
  by unfold Statement; revert v; cases ch <;> decide
theorem wr12 (ch : ChanId) (v : Byte) : Statement (.wr12 ch v) :=
  by unfold Statement; revert v; cases ch <;> decide
theorem wr13 (ch : ChanId) (v : Byte) : Statement (.wr13 ch v) :=
  by unfold Statement; revert v; cases ch <;> decide
theorem wr14DpllNull (ch : ChanId) (v : Byte) : Statement (.wr14DpllNull ch v) :=
  by unfold Statement; revert v; cases ch <;> decide
theorem wr14DpllEnterSearch (ch : ChanId) (v : Byte) : Statement (.wr14DpllEnterSearch ch v) :=
  by unfold Statement; revert v; cases ch <;> decide
theorem wr14DpllResetMissingClock (ch : ChanId) (v : Byte) : Statement (.wr14DpllResetMissingClock ch v) :=
  by unfold Statement; revert v; cases ch <;> decide
theorem wr14DpllDisable (ch : ChanId) (v : Byte) : Statement (.wr14DpllDisable ch v) :=
  by unfold Statement; revert v; cases ch <;> decide
theorem wr14DpllSourceBrg (ch : ChanId) (v : Byte) : Statement (.wr14DpllSourceBrg ch v) :=
  by unfold Statement; revert v; cases ch <;> decide
theorem wr14DpllSourceRtxc (ch : ChanId) (v : Byte) : Statement (.wr14DpllSourceRtxc ch v) :=
  by unfold Statement; revert v; cases ch <;> decide
theorem wr14DpllFmMode (ch : ChanId) (v : Byte) : Statement (.wr14DpllFmMode ch v) :=
  by unfold Statement; revert v; cases ch <;> decide
theorem wr14DpllNrziMode (ch : ChanId) (v : Byte) : Statement (.wr14DpllNrziMode ch v) :=
  by unfold Statement; revert v; cases ch <;> decide
theorem wr15 (ch : ChanId) (v : Byte) : Statement (.wr15 ch v) :=
  by unfold Statement; revert v; cases ch <;> decide
theorem rr0 (ch : ChanId) : Statement (.rr0 ch) :=
  fun _ => by cases ch <;> decide
theorem rr1 (ch : ChanId) : Statement (.rr1 ch) :=
  fun _ => by cases ch <;> decide
theorem rr2 (ch : ChanId) : Statement (.rr2 ch) :=
  fun _ => by cases ch <;> decide
theorem rr3 (ch : ChanId) : Statement (.rr3 ch) :=
  fun _ => by cases ch <;> decide
theorem rr4 (ch : ChanId) : Statement (.rr4 ch) :=
  fun _ => by cases ch <;> decide
theorem rr5 (ch : ChanId) : Statement (.rr5 ch) :=
  fun _ => by cases ch <;> decide
theorem rr6 (ch : ChanId) : Statement (.rr6 ch) :=
  fun _ => by cases ch <;> decide
theorem rr7 (ch : ChanId) : Statement (.rr7 ch) :=
  fun _ => by cases ch <;> decide
theorem rr8 (ch : ChanId) : Statement (.rr8 ch) :=
  fun _ => by cases ch <;> decide
theorem rr9 (ch : ChanId) : Statement (.rr9 ch) :=
  fun _ => by cases ch <;> decide
theorem rr10 (ch : ChanId) : Statement (.rr10 ch) :=
  fun _ => by cases ch <;> decide
theorem rr11 (ch : ChanId) : Statement (.rr11 ch) :=
  fun _ => by cases ch <;> decide
theorem rr12 (ch : ChanId) : Statement (.rr12 ch) :=
  fun _ => by cases ch <;> decide
theorem rr13 (ch : ChanId) : Statement (.rr13 ch) :=
  fun _ => by cases ch <;> decide
theorem rr14 (ch : ChanId) : Statement (.rr14 ch) :=
  fun _ => by cases ch <;> decide
theorem rr15 (ch : ChanId) : Statement (.rr15 ch) :=
  fun _ => by cases ch <;> decide
theorem txc (ch : ChanId) : Statement (.txc ch) :=
  fun _ => by cases ch <;> decide
theorem rxc (ch : ChanId) : Statement (.rxc ch) :=
  fun _ => by cases ch <;> decide
theorem rxd (ch : ChanId) (l : Bool) : Statement (.rxd ch l) :=
  fun _ => by cases ch <;> cases l <;> decide
theorem cts (ch : ChanId) (l : Bool) : Statement (.cts ch l) :=
  fun _ => by cases ch <;> cases l <;> decide
theorem dcd (ch : ChanId) (l : Bool) : Statement (.dcd ch l) :=
  fun _ => by cases ch <;> cases l <;> decide
theorem sync (ch : ChanId) (l : Bool) : Statement (.sync ch l) :=
  fun _ => by cases ch <;> cases l <;> decide
theorem ri (ch : ChanId) (l : Bool) : Statement (.ri ch l) :=
  fun _ => by cases ch <;> cases l <;> decide
theorem irqState : Statement (.irqState) :=
  fun _ => rfl
theorem irqAck : Statement (.irqAck) :=
  fun _ => rfl
theorem reti : Statement (.reti) :=
  fun _ => rfl
theorem reset : Statement (.reset) :=
  fun _ => rfl
theorem busZbusW (o : BitVec 6) (v : Byte) : Statement (.busZbusW o v) :=
  fun _ => beq_iff_eq.mpr (busWriteWord_masked 0#4 o v)
theorem busZbusR (o : BitVec 6) : Statement (.busZbusR o) :=
  fun _ => beq_iff_eq.mpr (busReadWord_masked 0#4 o)
theorem busCdAbW (o : BitVec 6) (v : Byte) : Statement (.busCdAbW o v) :=
  fun _ => beq_iff_eq.mpr (busWriteWord_masked 1#4 o v)
theorem busCdAbR (o : BitVec 6) : Statement (.busCdAbR o) :=
  fun _ => beq_iff_eq.mpr (busReadWord_masked 1#4 o)
theorem busCdBaW (o : BitVec 6) (v : Byte) : Statement (.busCdBaW o v) :=
  fun _ => beq_iff_eq.mpr (busWriteWord_masked 2#4 o v)
theorem busCdBaR (o : BitVec 6) : Statement (.busCdBaR o) :=
  fun _ => beq_iff_eq.mpr (busReadWord_masked 2#4 o)
theorem busBaCdW (o : BitVec 6) (v : Byte) : Statement (.busBaCdW o v) :=
  fun _ => beq_iff_eq.mpr (busWriteWord_masked 3#4 o v)
theorem busBaCdR (o : BitVec 6) : Statement (.busBaCdR o) :=
  fun _ => beq_iff_eq.mpr (busReadWord_masked 3#4 o)
theorem busBaCdInvW (o : BitVec 6) (v : Byte) : Statement (.busBaCdInvW o v) :=
  fun _ => beq_iff_eq.mpr (busWriteWord_masked 4#4 o v)
theorem busBaCdInvR (o : BitVec 6) : Statement (.busBaCdInvR o) :=
  fun _ => beq_iff_eq.mpr (busReadWord_masked 4#4 o)
theorem busCaW (o : BitVec 6) (v : Byte) : Statement (.busCaW o v) :=
  fun _ => beq_iff_eq.mpr (busWriteWord_masked 5#4 o v)
theorem busCaR (o : BitVec 6) : Statement (.busCaR o) :=
  fun _ => beq_iff_eq.mpr (busReadWord_masked 5#4 o)
theorem busCbW (o : BitVec 6) (v : Byte) : Statement (.busCbW o v) :=
  fun _ => beq_iff_eq.mpr (busWriteWord_masked 6#4 o v)
theorem busCbR (o : BitVec 6) : Statement (.busCbR o) :=
  fun _ => beq_iff_eq.mpr (busReadWord_masked 6#4 o)
theorem busDaW (o : BitVec 6) (v : Byte) : Statement (.busDaW o v) :=
  fun _ => beq_iff_eq.mpr (busWriteWord_masked 7#4 o v)
theorem busDaR (o : BitVec 6) : Statement (.busDaR o) :=
  fun _ => beq_iff_eq.mpr (busReadWord_masked 7#4 o)
theorem busDbW (o : BitVec 6) (v : Byte) : Statement (.busDbW o v) :=
  fun _ => beq_iff_eq.mpr (busWriteWord_masked 8#4 o v)
theorem busDbR (o : BitVec 6) : Statement (.busDbR o) :=
  fun _ => beq_iff_eq.mpr (busReadWord_masked 8#4 o)

end Sys2Proof.Laws.TableRow
end

