-- ==== Sys2Proof/Laws/Registers.lean ====
section
/-! SUPPORT. What the operations above the shared ones can do, said once: the line events, the WR0 commands, and a register
write or read by its number. `ServiceWithin s t`: every in-service mark of t is one of s. -/

namespace Sys2Proof.Machine

/-! ### The line events and clock edges reach their channel and the interrupt slots alone -/

theorem latchExternal_channelOnly (ch : ChanId) (s : State) : ChannelOnly ch s (latchExternal ch s) := by
  unfold latchExternal
  dsimp only
  split
  · exact .refl ch s
  · split
    · exact (setChan_channelOnly s ch _).trans ((trigger_arbiterOnly ch .ext _).channelOnly ch)
    · exact setChan_channelOnly s ch _

theorem ctsEvent_channelOnly (ch : ChanId) (l : Bool) (s : State) : ChannelOnly ch s (ctsEvent ch l s) := by
  have h := setChan_channelOnly s ch { s.chan ch with ctsPin := l }
  have k := h.trans (latchExternal_channelOnly ch _)
  unfold ctsEvent
  dsimp only
  split
  · exact h
  · split <;> split <;> first | assumption | exact h.trans (txKick_channelOnly ch _) | exact k.trans (txKick_channelOnly ch _)

theorem dcdEvent_channelOnly (ch : ChanId) (l : Bool) (s : State) : ChannelOnly ch s (dcdEvent ch l s) := by
  have h := setChan_channelOnly s ch { s.chan ch with dcdPin := l }
  have k := h.trans (latchExternal_channelOnly ch _)
  unfold dcdEvent
  dsimp only
  split
  · exact h
  · split <;> assumption

theorem txClockEdge_channelOnly (ch : ChanId) (s : State) : ChannelOnly ch s (txClockEdge ch s) := by
  unfold txClockEdge
  dsimp only
  split
  · exact (setChan_channelOnly s ch _).trans (txBitStep_channelOnly ch _)
  · exact setChan_channelOnly s ch _

theorem rxClockEdge_channelOnly (ch : ChanId) (s : State) : ChannelOnly ch s (rxClockEdge ch s) := by
  unfold rxClockEdge
  dsimp only
  split
  · exact (setChan_channelOnly s ch _).trans (rxBitStep_channelOnly ch _)
  · exact setChan_channelOnly s ch _

/-! ### The write registers -/

theorem commandResetExtStatus_channelOnly (ch : ChanId) (s : State) : ChannelOnly ch s (commandResetExtStatus ch s) := by
  have h := (clear_arbiterOnly ch .ext s).channelOnly ch
  unfold commandResetExtStatus
  dsimp only
  split
  · split
    · split
      · exact h.trans ((setChan_channelOnly _ ch _).trans ((trigger_arbiterOnly ch .ext _).channelOnly ch))
      · exact h.trans (setChan_channelOnly _ ch _)
    · exact h.trans (setChan_channelOnly _ ch _)
  · exact h

theorem commandResetTxInt_channelOnly (ch : ChanId) (s : State) : ChannelOnly ch s (commandResetTxInt ch s) :=
  ((clear_arbiterOnly ch .tx s).channelOnly ch).trans (setChan_channelOnly _ ch _)

theorem commandErrorReset_channelOnly (ch : ChanId) (s : State) : ChannelOnly ch s (commandErrorReset ch s) := by
  have h := fun c => (setChan_channelOnly s ch c).trans ((clear_arbiterOnly ch .rx _).channelOnly ch)
  unfold commandErrorReset
  dsimp only
  split
  · exact (h _).trans ((trigger_arbiterOnly ch .rx _).channelOnly ch)
  · exact h _

theorem writeWr4_channelOnly (ch : ChanId) (v : Byte) (s : State) : ChannelOnly ch s (writeWr4 ch v s) := by
  unfold writeWr4
  dsimp only
  split
  · exact .refl ch s
  · exact setChan_channelOnly s ch _

theorem writeWr5_channelOnly (ch : ChanId) (v : Byte) (s : State) : ChannelOnly ch s (writeWr5 ch v s) := by
  unfold writeWr5
  dsimp only
  split
  · exact .refl ch s
  · exact (setChan_channelOnly s ch _).trans (txKick_channelOnly ch _)

/-- An in-service mark of `t` is one of `s`. -/
def ServiceWithin (s t : State) : Prop := ∀ i, (t.slot i).ius = true → (s.slot i).ius = true

theorem ChannelOnly.serviceWithin {ch : ChanId} {s t : State} (h : ChannelOnly ch s t) : ServiceWithin s t :=
  fun i e => (h.ius i).symm.trans e

/-- Reset highest IUS adds no in-service mark (R410). -/
theorem resetHighestIus_serviceWithin (s : State) : ServiceWithin s (resetHighestIus s) := by
  intro i
  unfold resetHighestIus
  split
  · rename_i k _
    by_cases e : i = k
    · subst e; simp
    · rw [setSlot_slot_ne s k _ e]; exact id
  · exact id

@[simp] theorem resetHighestIus_chan (ch : ChanId) (s : State) : (resetHighestIus s).chan ch = s.chan ch := by
  unfold resetHighestIus; split <;> simp
@[simp] theorem resetHighestIus_wr2 (s : State) : (resetHighestIus s).ctl.wr2 = s.ctl.wr2 := by
  unfold resetHighestIus; split <;> simp
@[simp] theorem resetHighestIus_ptr (s : State) : (resetHighestIus s).ctl.ptr = s.ctl.ptr := by
  unfold resetHighestIus; split <;> simp
@[simp] theorem resetHighestIus_ip (i : SlotId) (s : State) : ((resetHighestIus s).slot i).ip = (s.slot i).ip := by
  unfold resetHighestIus
  split
  · rename_i k _
    by_cases e : i = k
    · subst e; simp
    · rw [setSlot_slot_ne s k _ e]
  · rfl

/-- A WR0 write without its command touches the pointer and the shift mode alone (R209, R210). -/
theorem wr0Pointer_frame (v : Byte) (s : State) :
    (∀ ch, (wr0Pointer v s).chan ch = s.chan ch) ∧ (wr0Pointer v s).ctl.wr2 = s.ctl.wr2 ∧
    (∀ i, (wr0Pointer v s).slot i = s.slot i) ∧ (wr0Pointer v s).cfg = s.cfg ∧
    (s.cfg.bus = .zBus → (wr0Pointer v s).ctl.ptr = s.ctl.ptr) := by
  unfold wr0Pointer
  split
  · rename_i h; exact ⟨fun ch => by simp, rfl, fun _ => rfl, rfl, by simp [h]⟩
  · split <;> exact ⟨fun ch => by simp, rfl, fun _ => rfl, rfl, fun _ => rfl⟩

theorem wr0CrcReset_eq (code : BitVec 2) (s : State) : wr0CrcReset code s = s := by unfold wr0CrcReset; split <;> rfl
theorem dpllCommand_eq (code : BitVec 3) (c : Channel) : dpllCommand code c = c := by unfold dpllCommand; split <;> rfl

/-! ### A register access by its number -/

/-- A case split over the sixteen register numbers. -/
theorem forall_reg {q : BitVec 4 → Prop} (h0 : q 0#4) (h1 : q 1#4) (h2 : q 2#4) (h3 : q 3#4) (h4 : q 4#4)
    (h5 : q 5#4) (h6 : q 6#4) (h7 : q 7#4) (h8 : q 8#4) (h9 : q 9#4) (h10 : q 10#4) (h11 : q 11#4)
    (h12 : q 12#4) (h13 : q 13#4) (h14 : q 14#4) (h15 : q 15#4) (n : BitVec 4) : q n := by
  obtain ⟨k⟩ := n
  fin_cases k <;> assumption

/-- The writes of registers other than WR0, WR2 and WR9 reach the named channel and the interrupt slots alone. -/
theorem regWrite_channelOnly {n : BitVec 4} (h0 : n ≠ 0#4) (h2 : n ≠ 2#4) (h9 : n ≠ 9#4) (ch : ChanId) (v : Byte)
    (s : State) :
    ChannelOnly ch s (regWrite ch n v s) := by
  revert h0 h2 h9
  induction n using forall_reg <;> intro h0 h2 h9
  · exact absurd rfl h0
  · exact setChan_channelOnly s ch _
  · exact absurd rfl h2
  · exact setChan_channelOnly s ch _
  · exact writeWr4_channelOnly ch v s
  · exact writeWr5_channelOnly ch v s
  · exact setChan_channelOnly s ch _
  · exact setChan_channelOnly s ch _
  · exact dataWrite_channelOnly ch v s
  · exact absurd rfl h9
  all_goals exact setChan_channelOnly s ch _

/-- What a read can do (R86): nothing, a data read, or, on channel B of an ESCC with soft acknowledge, the acknowledge of a
pending slot. -/
theorem regRead_cases (ch : ChanId) (n : BitVec 4) (s : State) :
    (regRead ch n s).2 = s ∨ (n = 8#4 ∧ (regRead ch n s).2 = (dataRead ch s).2) ∨
    (ch = .b ∧ (n = 2#4 ∨ n = 6#4) ∧ s.cfg.isEscc = true ∧ softIack s.ctl.wr9 = true ∧
      ∃ i, (s.slot i).ip = true ∧ (regRead ch n s).2 = acknowledge i s) := by
  have soft : (readRr2 ch s).2 = s ∨ (ch = .b ∧ s.cfg.isEscc = true ∧ softIack s.ctl.wr9 = true ∧
      ∃ i, (s.slot i).ip = true ∧ (readRr2 ch s).2 = acknowledge i s) := by
    cases ch
    · exact .inl rfl
    · unfold readRr2
      dsimp only
      split
      · exact .inl rfl
      · rename_i i hi
        dsimp only
        split
        · rename_i h
          rw [Bool.and_eq_true] at h
          exact .inr ⟨rfl, h.1, h.2, i, (firstPending_eq_some.mp hi).1, rfl⟩
        · exact .inl rfl
  have rr3 : (readRr3 ch s).2 = s := by cases ch <;> rfl
  induction n using forall_reg <;> unfold regRead <;> cases isExtended ch s
  all_goals first
    | exact .inl rfl
    | exact .inl rr3
    | exact .inr (.inl ⟨rfl, rfl⟩)
    | exact soft.imp id fun ⟨a, b, c, d⟩ => .inr ⟨a, .inl rfl, b, c, d⟩
    | exact soft.imp id fun ⟨a, b, c, d⟩ => .inr ⟨a, .inr rfl, b, c, d⟩

/-- The eight commands of a WR0 write (R110). -/
abbrev wr0Commands (ch : ChanId) : List (State → State) :=
  [commandNull, commandPointHigh, commandResetExtStatus ch, commandSendAbort, commandEnableIntNextRx ch, commandResetTxInt ch,
    commandErrorReset ch, commandResetHighestIus]

/-- A WR0 write is one of the eight commands after the pointer or shift bits. -/
theorem writeWr0_cases (ch : ChanId) (v : Byte) (s : State) :
    ∃ command ∈ wr0Commands ch, writeWr0 ch v s = command (wr0Pointer v s) := by
  unfold writeWr0 wr0Effects wr0Command
  rw [wr0CrcReset_eq]
  split <;> exact ⟨_, by simp, rfl⟩

/-- What a WR0 command leaves alone. -/
theorem wr0Effects_frame (ch : ChanId) {command : State → State} (h : command ∈ wr0Commands ch) (v : Byte) (s : State) :
    let t := wr0Effects command v s
    t.chan ch.other = s.chan ch.other ∧ t.ctl.wr2 = s.ctl.wr2 ∧ ServiceWithin s t ∧
    (s.cfg.bus = .zBus → t.ctl.ptr = s.ctl.ptr) := by
  obtain ⟨a, b, c, d, e⟩ := wr0Pointer_frame v s
  have only : ∀ t, ChannelOnly ch (wr0Pointer v s) t → t.chan ch.other = s.chan ch.other ∧ t.ctl.wr2 = s.ctl.wr2 ∧
      ServiceWithin s t ∧ (s.cfg.bus = .zBus → t.ctl.ptr = s.ctl.ptr) := fun t h =>
    ⟨h.other.trans (a _), h.wr2.trans b, fun i g => c i ▸ h.serviceWithin i g, fun z => h.ptr.trans (e z)⟩
  simp only [wr0Effects, wr0CrcReset_eq]
  simp only [wr0Commands, List.mem_cons, List.not_mem_nil, or_false] at h
  obtain rfl | rfl | rfl | rfl | rfl | rfl | rfl | rfl := h
  · exact only _ (.refl _ _)
  · unfold commandPointHigh
    split
    · rename_i h
      rw [d] at h
      exact ⟨by simp [a], b, fun i g => c i ▸ g, by simp [h]⟩
    · exact only _ (.refl _ _)
  · exact only _ (commandResetExtStatus_channelOnly ch _)
  · exact only _ (.refl _ _)
  · exact only _ (setChan_channelOnly _ ch _)
  · exact only _ (commandResetTxInt_channelOnly ch _)
  · exact only _ (commandErrorReset_channelOnly ch _)
  · refine ⟨by simp [commandResetHighestIus, a], by simp [commandResetHighestIus, b], ?_,
      by simpa [commandResetHighestIus] using e⟩
    intro i g
    exact c i ▸ resetHighestIus_serviceWithin _ i g

end Sys2Proof.Machine
end

