-- ==== Sys2Proof/Tests/Slice0.lean ====
section
/-! SUPPORT. Small tests of the model, each on one word or one step, and for every statement with hypotheses a witness that
meets them. Expected values are the spec's own: the vectors of 95_test_vectors.md (named E, B, W, R-, Q, X, T, S, I, Z), or the
example of the rule a test names. -/

namespace Sys2Proof.Tests

open Sys2Proof Sys2Proof.Machine Sys2Proof.Claims

/-! ### Helpers -/

/-- A state with the given change to channel A. -/
def onA (f : Channel → Channel) (s : State) : State := { s with chA := f s.chA }

/-- A state with the given change to channel B. -/
def onB (f : Channel → Channel) (s : State) : State := { s with chB := f s.chB }

/-- A state with the given change to the controller. -/
def onCtl (f : Controller → Controller) (s : State) : State := { s with ctl := f s.ctl }

/-- The state after construction on an ESCC. -/
def escc : State := State.construct { Config.default with variant := .escc } PowerOnDraw.zero

/-- The state after construction on a Z-Bus chip. -/
def zbus : State := State.construct { Config.default with bus := .zBus } PowerOnDraw.zero

/-- An ESCC with extended read on both channels. -/
def extended : State := onB (fun c => { c with wr7p := 0x60#8 }) (onA (fun c => { c with wr7p := 0x60#8 }) escc)

/-- A state with MIE set. -/
def mieOn (s : State) : State := onCtl (fun k => { k with wr9 := k.wr9 ||| 0x08#8 }) s

/-- Slots A receive, A external/status and B transmit pending (E5). -/
def threePending : State :=
  onCtl (fun k => { k with
    wr9 := 0x09#8
    ipBits := 0b101010#6
    slots := { k.slots with
      aRx := ⟨true, false, .rxAvailable⟩
      aExt := ⟨true, false, .extStatus⟩
      bTx := ⟨true, false, .txEmpty⟩ } }) State.reset

/-- Slots 0 and 4 in service. -/
def twoInService : State :=
  onCtl (fun k => { k with
    slots := { k.slots with aRx := ⟨false, true, .rxAvailable⟩, bTx := ⟨false, true, .txEmpty⟩ } }) State.reset

/-- The frame of 0x41 in 8 bits, no parity, one stop bit (R312). -/
def frame41 : List Bool := [false, true, false, false, false, false, false, true, false, true]

/-- Channel A at x1 with the transmitter enabled for 8 bits, one bit of 0x41 sent (R-5). -/
def inFlight : State :=
  onA (fun c => { c with wr5 := 0x68#8, tsr := frame41.tail, allSent := false, txd := false }) State.reset

/-- Channel A with a full NMOS receive FIFO. -/
def rxFull : State :=
  onA (fun c => { c with wr1 := 0x10#8, rxq := [⟨0x11#8, 0x00#8⟩, ⟨0x22#8, 0x00#8⟩, ⟨0x33#8, 0x00#8⟩] }) State.reset

/-- Channel A of a chip whose receive FIFO is locked on an overrun entry (W9). -/
def locked : State :=
  onA (fun c => { c with rxq := [⟨0x44#8, 0x20#8⟩], rxLocked := true, errBits := 0b0010#4 }) State.reset

/-- Channel A locked on a parity entry, one more behind it, after a WR1 write that cleared D2. -/
def parityLocked : State :=
  mieOn (onA (fun c => { c with
    wr1 := 0x10#8, rxq := [⟨0x41#8, 0x10#8⟩, ⟨0x42#8, 0x00#8⟩], rxLocked := true, errBits := 0b0001#4 }) State.reset)

/-- The external/status latch of channel A as after `cts A, 0` (S1), the /CTS pin at level l now. -/
def latched (l : Bool) : State :=
  mieOn (onA (fun c => { c with
    wr1 := 0x01#8, wr15 := 0x20#8, extLatched := true, extSnap := 0x64#8, ctsPin := l }) State.reset)

/-- What a field of the next state is. -/
def after {β : Type} (i : Instr) (s : State) (f : State → β) : Option β :=
  match exec i s with
  | .next t => some (f t)
  | _ => none

/-- What an operation returns. -/
def answerOf (i : Instr) (s : State) : Option Response := after i s State.response

/-- A sound state that no reset leaves: an ESCC in the middle of its work. -/
def busy : State :=
  onCtl (fun k => { k with
    wr2 := 0x5A#8, wr9 := 0x29#8, ptr := 5#4, ipBits := 0b110000#6
    slots := { k.slots with aRx := ⟨true, false, .special⟩, aTx := ⟨false, true, .txEmpty⟩ } })
  (onA (fun c => { c with
    wr1 := 0x12#8, wr3 := 0xC1#8, wr4 := 0x44#8, wr5 := 0x6A#8, wr7p := 0x60#8, wr12 := 0x0A#8, wr14 := 0x03#8
    rxq := [⟨0x41#8, 0x40#8⟩, ⟨0x42#8, 0x00#8⟩], rxLocked := true, txq := [0x01#8, 0x02#8], tsr := frame41
    rxs := .data 3 0x05#8, txDiv := 15, rxDiv := 7, allSent := false, errBits := 0b0100#4, txIntDisarmed := true
    rtsOn := true, rateApplied := .hz 3686400 192, ratePending := .hz 3686400 192, rxdPin := false }) escc)

/-! ### WellFormed refuses an ill-formed term, one per check -/

theorem test_wellFormed_refuses_wr0 :
    (Instr.wr0Null .b 0x08#8).wellFormed = false ∧
    (Instr.wr0PointHigh .b 0x00#8).wellFormed = false ∧
    (Instr.wr0ResetExtStatus .b 0x18#8).wellFormed = false ∧
    (Instr.wr0SendAbort .b 0x10#8).wellFormed = false ∧
    (Instr.wr0EnableIntNextRx .b 0x28#8).wellFormed = false ∧
    (Instr.wr0ResetTxInt .b 0x20#8).wellFormed = false ∧
    (Instr.wr0ErrorReset .b 0x38#8).wellFormed = false ∧
    (Instr.wr0ResetHighestIus .b 0x30#8).wellFormed = false := by decide

theorem test_wellFormed_refuses_wr9 :
    (Instr.wr9NoReset .b 0x40#8).wellFormed = false ∧
    (Instr.wr9ResetB .b 0x80#8).wellFormed = false ∧
    (Instr.wr9ResetA .b 0xC0#8).wellFormed = false ∧
    (Instr.wr9HwReset .b 0x00#8).wellFormed = false := by decide

theorem test_wellFormed_refuses_wr14 :
    (Instr.wr14DpllNull .b 0x20#8).wellFormed = false ∧
    (Instr.wr14DpllEnterSearch .b 0x40#8).wellFormed = false ∧
    (Instr.wr14DpllResetMissingClock .b 0x60#8).wellFormed = false ∧
    (Instr.wr14DpllDisable .b 0x80#8).wellFormed = false ∧
    (Instr.wr14DpllSourceBrg .b 0xA0#8).wellFormed = false ∧
    (Instr.wr14DpllSourceRtxc .b 0xC0#8).wellFormed = false ∧
    (Instr.wr14DpllFmMode .b 0xE0#8).wellFormed = false ∧
    (Instr.wr14DpllNrziMode .b 0x00#8).wellFormed = false := by decide

/-! ### Decoding of words written out from R100-R103 and R101 -/

theorem test_decode_wr0_commands :
    decode (.op 0x0000#16) = .ok (.wr0Null .a 0x00#8) ∧
    decode (.op 0x100B#16) = .ok (.wr0PointHigh .b 0x0B#8) ∧
    decode (.op 0x0055#16) = .ok (.wr0ResetExtStatus .a 0x55#8) ∧
    decode (.op 0x0018#16) = .ok (.wr0SendAbort .a 0x18#8) ∧
    decode (.op 0x1020#16) = .ok (.wr0EnableIntNextRx .b 0x20#8) ∧
    decode (.op 0x0028#16) = .ok (.wr0ResetTxInt .a 0x28#8) ∧
    decode (.op 0x0030#16) = .ok (.wr0ErrorReset .a 0x30#8) ∧
    decode (.op 0x1038#16) = .ok (.wr0ResetHighestIus .b 0x38#8) := by decide

theorem test_decode_register_writes :
    decode (.op 0x0112#16) = .ok (.wr1 .a 0x12#8) ∧
    decode (.op 0x1240#16) = .ok (.wr2 .b 0x40#8) ∧
    decode (.op 0x03C1#16) = .ok (.wr3 .a 0xC1#8) ∧
    decode (.op 0x0444#16) = .ok (.wr4 .a 0x44#8) ∧
    decode (.op 0x0568#16) = .ok (.wr5 .a 0x68#8) ∧
    decode (.op 0x067E#16) = .ok (.wr6 .a 0x7E#8) ∧
    decode (.op 0x1740#16) = .ok (.wr7 .b 0x40#8) ∧
    decode (.op 0x1841#16) = .ok (.wr8 .b 0x41#8) ∧
    decode (.op 0x0A20#16) = .ok (.wr10 .a 0x20#8) ∧
    decode (.op 0x0B50#16) = .ok (.wr11 .a 0x50#8) ∧
    decode (.op 0x0C0A#16) = .ok (.wr12 .a 0x0A#8) ∧
    decode (.op 0x0D01#16) = .ok (.wr13 .a 0x01#8) ∧
    decode (.op 0x1FF8#16) = .ok (.wr15 .b 0xF8#8) := by decide

theorem test_decode_wr9_and_wr14_codes :
    decode (.op 0x0909#16) = .ok (.wr9NoReset .a 0x09#8) ∧
    decode (.op 0x0940#16) = .ok (.wr9ResetB .a 0x40#8) ∧
    decode (.op 0x1980#16) = .ok (.wr9ResetA .b 0x80#8) ∧
    decode (.op 0x09C8#16) = .ok (.wr9HwReset .a 0xC8#8) ∧
    decode (.op 0x0E03#16) = .ok (.wr14DpllNull .a 0x03#8) ∧
    decode (.op 0x0E20#16) = .ok (.wr14DpllEnterSearch .a 0x20#8) ∧
    decode (.op 0x0E41#16) = .ok (.wr14DpllResetMissingClock .a 0x41#8) ∧
    decode (.op 0x1E60#16) = .ok (.wr14DpllDisable .b 0x60#8) ∧
    decode (.op 0x0E83#16) = .ok (.wr14DpllSourceBrg .a 0x83#8) ∧
    decode (.op 0x0EA0#16) = .ok (.wr14DpllSourceRtxc .a 0xA0#8) ∧
    decode (.op 0x0EC0#16) = .ok (.wr14DpllFmMode .a 0xC0#8) ∧
    decode (.op 0x1EE0#16) = .ok (.wr14DpllNrziMode .b 0xE0#8) := by decide

theorem test_decode_register_reads :
    decode (.op 0x4000#16) = .ok (.rr0 .a) ∧
    decode (.op 0x4100#16) = .ok (.rr1 .a) ∧
    decode (.op 0x5200#16) = .ok (.rr2 .b) ∧
    decode (.op 0x4300#16) = .ok (.rr3 .a) ∧
    decode (.op 0x4400#16) = .ok (.rr4 .a) ∧
    decode (.op 0x5500#16) = .ok (.rr5 .b) ∧
    decode (.op 0x4600#16) = .ok (.rr6 .a) ∧
    decode (.op 0x4700#16) = .ok (.rr7 .a) ∧
    decode (.op 0x5800#16) = .ok (.rr8 .b) ∧
    decode (.op 0x4900#16) = .ok (.rr9 .a) ∧
    decode (.op 0x4A00#16) = .ok (.rr10 .a) ∧
    decode (.op 0x5B00#16) = .ok (.rr11 .b) ∧
    decode (.op 0x4C00#16) = .ok (.rr12 .a) ∧
    decode (.op 0x4D00#16) = .ok (.rr13 .a) ∧
    decode (.op 0x5E00#16) = .ok (.rr14 .b) ∧
    decode (.op 0x4F00#16) = .ok (.rr15 .a) := by decide

theorem test_decode_events_and_control :
    decode (.op 0x8000#16) = .ok (.txc .a) ∧
    decode (.op 0x9100#16) = .ok (.rxc .b) ∧
    decode (.op 0x8201#16) = .ok (.rxd .a true) ∧
    decode (.op 0x8300#16) = .ok (.cts .a false) ∧
    decode (.op 0x9401#16) = .ok (.dcd .b true) ∧
    decode (.op 0x8500#16) = .ok (.sync .a false) ∧
    decode (.op 0x9600#16) = .ok (.ri .b false) ∧
    decode (.op 0xC000#16) = .ok (.irqState) ∧
    decode (.op 0xC100#16) = .ok (.irqAck) ∧
    decode (.op 0xC200#16) = .ok (.reti) ∧
    decode (.op 0xC300#16) = .ok (.reset) := by decide

theorem test_decode_bus_words :
    decode (.bus 0x03834#20) = .ok (.busZbusW 0x38#6 0x34#8) ∧
    decode (.bus 0x1000D#20) = .ok (.busCdAbW 0x00#6 0x0D#8) ∧
    decode (.bus 0x20109#20) = .ok (.busCdBaW 0x01#6 0x09#8) ∧
    decode (.bus 0x3000F#20) = .ok (.busBaCdW 0x00#6 0x0F#8) ∧
    decode (.bus 0x4010F#20) = .ok (.busBaCdInvW 0x01#6 0x0F#8) ∧
    decode (.bus 0x50055#20) = .ok (.busCaW 0x00#6 0x55#8) ∧
    decode (.bus 0x60000#20) = .ok (.busCbW 0x00#6 0x00#8) ∧
    decode (.bus 0x70041#20) = .ok (.busDaW 0x00#6 0x41#8) ∧
    decode (.bus 0x83F41#20) = .ok (.busDbW 0x3F#6 0x41#8) ∧
    decode (.bus 0x0BE00#20) = .ok (.busZbusR 0x3E#6) ∧
    decode (.bus 0x18300#20) = .ok (.busCdAbR 0x03#6) ∧
    decode (.bus 0x28100#20) = .ok (.busCdBaR 0x01#6) ∧
    decode (.bus 0x38200#20) = .ok (.busBaCdR 0x02#6) ∧
    decode (.bus 0x48300#20) = .ok (.busBaCdInvR 0x03#6) ∧
    decode (.bus 0x58000#20) = .ok (.busCaR 0x00#6) ∧
    decode (.bus 0x68000#20) = .ok (.busCbR 0x00#6) ∧
    decode (.bus 0x78000#20) = .ok (.busDaR 0x00#6) ∧
    decode (.bus 0x88000#20) = .ok (.busDbR 0x00#6) := by decide

/-- B14 and R104: every kind of invalid word, at the least value out of range where there is a range. -/
theorem test_invalid_words_are_refused :
    decode (.op 0x2000#16) = .error .reservedBit13 ∧
    decode (.op 0x4001#16) = .error .readWithData ∧
    decode (.op 0x8700#16) = .error .unknownSignal ∧
    decode (.op 0x8F00#16) = .error .unknownSignal ∧
    decode (.op 0x8202#16) = .error .eventReservedBits ∧
    decode (.op 0x8001#16) = .error .clockEdgeWithLevel ∧
    decode (.op 0x8101#16) = .error .clockEdgeWithLevel ∧
    decode (.op 0xD000#16) = .error .controlWithChannel ∧
    decode (.op 0xC001#16) = .error .controlWithData ∧
    decode (.op 0xC400#16) = .error .unknownControl ∧
    decode (.bus 0x90000#20) = .error .unknownEntry ∧
    decode (.bus 0xF8000#20) = .error .unknownEntry ∧
    decode (.bus 0x04000#20) = .error .reservedBit14 ∧
    decode (.bus 0x58001#20) = .error .busReadWithData := by decide

/-- The last values in range of the same fields decode (R104). -/
theorem test_boundary_words_decode :
    decode (.op 0x8601#16) = .ok (.ri .a true) ∧ decode (.op 0xC300#16) = .ok .reset ∧
    decode (.bus 0x80000#20) = .ok (.busDbW 0#6 0x00#8) := by decide

/-! ### One step of each operation -/

/-- R200: nothing changes but the pointer. -/
theorem test_wr0Null : after (.wr0Null .a 0x00#8) (onCtl (fun k => { k with ptr := 5#4 }) State.reset) (·.ctl.ptr) = some 0#4 := by
  decide
/-- W2. -/
theorem test_wr0PointHigh : after (.wr0PointHigh .a 0x0D#8) State.reset (·.ctl.ptr) = some 13#4 := by decide
/-- On the Z-Bus point high writes no pointer (R201), and the low bits select shift right (R210). -/
theorem test_wr0PointHigh_zbus :
    after (.wr0PointHigh .a 0x0B#8) zbus (fun t => (t.ctl.ptr, t.ctl.zshift)) = some (0#4, .right) := by decide
/-- W4: the live level equals the snapshot. -/
theorem test_wr0ResetExtStatus_releases :
    after (.wr0ResetExtStatus .a 0x10#8) (latched false) (fun t => (t.chA.extLatched, t.ctl.ipBits)) =
      some (false, 0#6) := by decide
/-- R202's example: the pin has moved since, so the latch is taken again and EXT is raised. -/
theorem test_wr0ResetExtStatus_rearms :
    after (.wr0ResetExtStatus .a 0x10#8) (latched true) (fun t => (t.chA.extLatched, t.chA.extSnap, t.ctl.ipBits)) =
      some (true, 0x44#8, 0b001000#6) := by decide
/-- W6. -/
theorem test_wr0SendAbort : after (.wr0SendAbort .a 0x18#8) State.reset (fun t => decide (t = State.reset)) = some true := by decide
/-- W7. -/
theorem test_wr0EnableIntNextRx :
    after (.wr0EnableIntNextRx .a 0x20#8) (onA (fun c => { c with rxFirstArmed := false }) State.reset) (·.chA.rxFirstArmed) =
      some true := by decide
/-- W8. -/
theorem test_wr0ResetTxInt :
    after (.wr0ResetTxInt .a 0x28#8)
      (onCtl (fun k => { k with ipBits := 0b010000#6, slots := { k.slots with aTx := ⟨true, false, .txEmpty⟩ } }) State.reset)
      (fun t => (t.ctl.slots.aTx.ip, t.ctl.ipBits, t.chA.txIntDisarmed)) = some (false, 0#6, true) := by decide
/-- W9. -/
theorem test_wr0ErrorReset :
    after (.wr0ErrorReset .a 0x30#8) locked (fun t => (t.chA.rxq, t.chA.rxLocked, t.chA.errBits)) =
      some ([], false, 0#4) := by decide
/-- R207's example: slots 0 and 4 in service. -/
theorem test_wr0ResetHighestIus :
    after (.wr0ResetHighestIus .b 0x38#8) twoInService (fun t => (t.ctl.slots.aRx.ius, t.ctl.slots.bTx.ius)) =
      some (false, true) := by decide
theorem test_wr1 : after (.wr1 .a 0x12#8) State.reset (fun t => (t.chA.wr1, t.chB.wr1)) = some (0x12#8, 0x00#8) := by decide
/-- R-1. -/
theorem test_wr2 : after (.wr2 .b 0x40#8) State.reset (·.ctl.wr2) = some 0x40#8 := by decide
/-- R-4. -/
theorem test_wr3 : after (.wr3 .a 0x10#8) State.reset (fun t => (t.chA.wr3, t.chA.syncHunt)) = some (0x10#8, true) := by decide
/-- R-6. -/
theorem test_wr4 : after (.wr4 .a 0x05#8) inFlight (fun t => (t.chA.wr4, t.chA.tsr, t.chA.allSent)) = some (0x05#8, [], false) := by
  decide
/-- R-5: the identical write keeps the character in flight. -/
theorem test_wr4_identical : after (.wr4 .a 0x04#8) inFlight (·.chA.tsr) = some frame41.tail := by decide
/-- R217: enabling the transmitter starts the byte that waits. -/
theorem test_wr5 :
    after (.wr5 .a 0x6A#8) (onA (fun c => { c with txq := [0x41#8], allSent := false }) State.reset)
      (fun t => (t.chA.tsr, t.chA.txq, t.chA.rtsOn)) = some (frame41, [], true) := by decide
/-- R-9: under auto enables the release of RTS waits for all sent. -/
theorem test_wr5_holds_rts :
    after (.wr5 .a 0x68#8) (onA (fun c => { c with wr3 := 0x21#8, wr5 := 0x6A#8, rtsOn := true }) inFlight)
      (fun t => (t.chA.rtsOn, t.chA.rtsReleasePending)) = some (true, true) := by decide
theorem test_wr6 : after (.wr6 .a 0x7E#8) State.reset (·.chA.wr6) = some 0x7E#8 := by decide
/-- R-2. -/
theorem test_wr7_nmos :
    after (.wr7 .a 0x7E#8) (onA (fun c => { c with wr15 := 0x01#8 }) State.reset) (fun t => (t.chA.wr7, t.chA.wr7p)) =
      some (0x7E#8, 0x00#8) := by decide
/-- R-3. -/
theorem test_wr7_escc :
    after (.wr7 .a 0x60#8) (onA (fun c => { c with wr15 := 0x01#8 }) escc) (fun t => (t.chA.wr7, t.chA.wr7p)) =
      some (0x00#8, 0x60#8) := by decide
/-- E1: the byte goes to the shift register at once. -/
theorem test_wr8 :
    after (.wr8 .a 0x41#8) (onA (fun c => { c with wr5 := 0x68#8 }) State.reset) (fun t => (t.chA.tsr, t.chA.txq, t.chA.allSent)) =
      some (frame41, [], false) := by decide
/-- E9: a full transmit FIFO drops the byte. -/
theorem test_wr8_full :
    after (.wr8 .a 0x02#8) (onA (fun c => { c with txq := [0x01#8] }) State.reset) (·.chA.txq) = some [0x01#8] := by decide
theorem test_wr9NoReset : after (.wr9NoReset .a 0x09#8) State.reset (·.ctl.wr9) = some 0x09#8 := by decide
/-- Z2: the rate generator of the reset channel keeps running. -/
theorem test_wr9ResetB :
    after (.wr9ResetB .a 0x40#8) (onB (fun c => { c with wr14 := 0x03#8, txq := [0x01#8] }) State.reset)
      (fun t => (t.chB.wr14, t.chB.txq, t.chB.rateApplied)) = some (0x23#8, [], .hz 3686400 2) := by decide
/-- R503's example: the in-service mark of channel A is dropped; R-10. -/
theorem test_wr9ResetA :
    after (.wr9ResetA .b 0x80#8) twoInService (fun t => (t.chA.wr14, t.ctl.slots.aRx.ius, t.ctl.slots.bTx.ius)) =
      some (0x20#8, false, true) := by decide
/-- R-11. -/
theorem test_wr9HwReset :
    after (.wr9HwReset .a 0xD4#8) (onCtl (fun k => { k with wr9 := 0x09#8 }) State.reset) (·.ctl.wr9) = some 0x15#8 := by decide
/-- Z4: the shift mode survives. -/
theorem test_wr9HwReset_keeps_shift :
    after (.wr9HwReset .a 0xC0#8) (onCtl (fun k => { k with zshift := .right }) zbus) (·.ctl.zshift) = some .right := by decide
theorem test_wr10 : after (.wr10 .a 0x20#8) State.reset (·.chA.wr10) = some 0x20#8 := by decide
theorem test_wr11 : after (.wr11 .a 0x50#8) State.reset (·.chA.wr11) = some 0x50#8 := by decide
/-- R-16: a character is in flight, so the new rate waits. -/
theorem test_wr12_deferred :
    after (.wr12 .a 22#8) busy (fun t => (t.chA.rateApplied, t.chA.ratePending, t.chA.delayedChange)) =
      some (.hz 3686400 192, .hz 3686400 384, true) := by decide
/-- H2: the second write of the time constant, 0x00FF, at x1. -/
theorem test_wr13 :
    after (.wr13 .a 0x00#8) (onA (fun c => { c with wr12 := 0xFF#8, wr13 := 0x01#8, wr14 := 0x03#8 }) State.reset)
      (·.chA.rateApplied) = some (.hz 3686400 257) := by decide
/-- R-13: 3686400 / (12 · 16). -/
theorem test_wr14DpllNull :
    after (.wr14DpllNull .a 0x03#8) (onA (fun c => { c with wr4 := 0x44#8, wr12 := 0x0A#8 }) State.reset) (·.chA.rateApplied) =
      some (.hz 3686400 192) := by decide
/-- R-15. -/
theorem test_wr14DpllNull_stops : after (.wr14DpllNull .a 0x02#8) busy (·.chA.rateApplied) = some .stopped := by decide
/-- R225's example and R-17: a DPLL command only stores. -/
theorem test_wr14_dpll_commands_store :
    after (.wr14DpllEnterSearch .a 0x20#8) State.reset (·.chA.wr14) = some 0x20#8 ∧
    after (.wr14DpllResetMissingClock .a 0x40#8) State.reset (·.chA.wr14) = some 0x40#8 ∧
    after (.wr14DpllDisable .a 0x60#8) State.reset (·.chA.wr14) = some 0x60#8 ∧
    after (.wr14DpllSourceBrg .a 0x80#8) State.reset (·.chA.wr14) = some 0x80#8 ∧
    after (.wr14DpllSourceRtxc .a 0xA0#8) State.reset (·.chA.wr14) = some 0xA0#8 ∧
    after (.wr14DpllFmMode .a 0xC0#8) State.reset (·.chA.wr14) = some 0xC0#8 ∧
    after (.wr14DpllNrziMode .a 0xE0#8) State.reset (·.chA.wr14) = some 0xE0#8 := by decide
theorem test_wr15 : after (.wr15 .a 0x20#8) State.reset (·.chA.wr15) = some 0x20#8 := by decide

/-- The state the remap table of section 2.4 is read in, on the given chip with the given WR7'. -/
def remapState (variant : Variant) (wr7p : Byte) : State :=
  onCtl (fun k => { k with wr2 := 0x5A#8 }) (onA (fun c => { c with
    wr3 := 0xC0#8, wr4 := 0x44#8, wr5 := 0x60#8, wr7p := wr7p, wr10 := 0x80#8, wr12 := 0x12#8, wr13 := 0x34#8, wr15 := 0x00#8 })
    (State.construct { Config.default with variant := variant } PowerOnDraw.zero))

/-- The sixteen reads of channel A. -/
def readsOfA : List Instr :=
  [.rr0 .a, .rr1 .a, .rr2 .a, .rr3 .a, .rr4 .a, .rr5 .a, .rr6 .a, .rr7 .a, .rr8 .a, .rr9 .a, .rr10 .a, .rr11 .a, .rr12 .a,
    .rr13 .a, .rr14 .a, .rr15 .a]

/-- The NMOS column of section 2.4. -/
theorem test_reads_nmos :
    readsOfA.map (answerOf · (remapState .nmos 0x00#8)) =
      ([0x44#8, 0x07#8, 0x5A#8, 0x00#8, 0x44#8, 0x07#8, 0x5A#8, 0x00#8, 0x00#8, 0x34#8, 0x00#8, 0x00#8, 0x12#8, 0x34#8, 0x00#8,
        0x00#8].map fun v => some (.byte v)) := by decide
/-- The column of section 2.4 for an ESCC with extended read on. -/
theorem test_reads_extended :
    readsOfA.map (answerOf · (remapState .escc 0x40#8)) =
      ([0x44#8, 0x07#8, 0x5A#8, 0x00#8, 0x44#8, 0x60#8, 0x5A#8, 0x00#8, 0x00#8, 0xC0#8, 0x00#8, 0x80#8, 0x12#8, 0x34#8, 0x40#8,
        0x00#8].map fun v => some (.byte v)) := by decide
/-- S2: while latched RR0 shows the snapshot. -/
theorem test_rr0_latched : answerOf (.rr0 .a) (latched true) = some (.byte 0x64#8) := by decide
/-- Q1 and R263's example: nothing pending; channel A transmit pending. -/
theorem test_rr2 :
    answerOf (.rr2 .b) State.reset = some (.byte 0x06#8) ∧
    answerOf (.rr2 .b) (onCtl (fun k => { k with slots := { k.slots with aTx := ⟨true, false, .txEmpty⟩ } }) State.reset) =
      some (.byte 0x08#8) := by decide
/-- R264's example and Q4. -/
theorem test_rr3 :
    answerOf (.rr3 .a) (onCtl (fun k => { k with ipBits := 0b000100#6 }) State.reset) = some (.byte 0x04#8) ∧
    answerOf (.rr3 .b) (onCtl (fun k => { k with ipBits := 0b000100#6 }) State.reset) = some (.byte 0x00#8) := by decide
/-- Q5: the read acknowledges in software. -/
theorem test_rr6_softIack :
    after (.rr6 .b)
      (onCtl (fun k => { k with wr9 := 0x29#8, slots := { k.slots with aRx := ⟨true, false, .rxAvailable⟩ } }) escc)
      (fun t => (t.response, t.ctl.slots.aRx.ip, t.ctl.slots.aRx.ius)) = some (.byte 0x0C#8, false, true) := by decide
/-- R300's example. -/
theorem test_rr8_pops :
    after (.rr8 .a)
      (onCtl (fun k => { k with ipBits := 0b100000#6, slots := { k.slots with aRx := ⟨true, false, .rxAvailable⟩ } })
        (onA (fun c => { c with rxq := [⟨0x41#8, 0x00#8⟩] }) State.reset))
      (fun t => (t.response, t.chA.rxq, t.ctl.slots.aRx.ip, t.ctl.ipBits)) = some (.byte 0x41#8, [], false, 0#6) := by decide
/-- X2: a parity error made special locks the entry and raises SPECIAL. -/
theorem test_rr8_locks :
    after (.rr8 .a) (mieOn (onA (fun c => { c with wr1 := 0x14#8, rxq := [⟨0x41#8, 0x10#8⟩] }) State.reset))
      (fun t => (t.response, t.chA.rxq, t.chA.rxLocked, t.ctl.slots.aRx)) =
      some (.byte 0x41#8, [⟨0x41#8, 0x10#8⟩], true, ⟨true, false, .special⟩) := by decide

/-- R-5: the next edge sends bit 1 of 0x41's frame. -/
theorem test_txc : after (.txc .a) inFlight (fun t => (t.chA.txd, t.chA.tsr)) = some (true, frame41.tail.tail) := by decide
/-- R320's example: the last bit ends the frame. -/
theorem test_txc_completes :
    after (.txc .a) (onA (fun c => { c with tsr := [true] }) inFlight) (fun t => (t.chA.txd, t.chA.tsr, t.chA.allSent)) =
      some (true, [], true) := by decide
/-- X3: a stop bit of 0 is a framing error. -/
theorem test_rxc :
    after (.rxc .a)
      (onA (fun c => { c with wr3 := 0xC1#8, rxs := .stop 0x55#8 false, rxdPin := false }) State.reset)
      (fun t => (t.chA.rxq, t.chA.rxs)) = some ([⟨0x55#8, 0x40#8⟩], .idle) := by decide
/-- E4: the fourth character replaces the newest entry and carries the overrun flag. -/
theorem test_rxc_overrun :
    after (.rxc .a) (onA (fun c => { c with wr3 := 0xC1#8, rxs := .stop 0x44#8 false }) rxFull) (·.chA.rxq) =
      some [⟨0x11#8, 0x00#8⟩, ⟨0x22#8, 0x00#8⟩, ⟨0x44#8, 0x20#8⟩] := by decide
/-- T10 and R119. -/
theorem test_edges_in_synchronous_mode_are_refused :
    (match exec (.txc .b) (onB (fun c => { c with wr4 := 0x00#8 }) State.reset) with
      | .refused r => decide (r = .synchronousMode .b) | _ => false) = true ∧
    (match exec (.rxc .b) (onB (fun c => { c with wr4 := 0x00#8 }) State.reset) with
      | .refused r => decide (r = .synchronousMode .b) | _ => false) = true := by decide
theorem test_rxd : after (.rxd .a false) State.reset (fun t => (t.chA.rxdPin, t.chB.rxdPin)) = some (false, true) := by decide
/-- S1. -/
theorem test_cts :
    after (.cts .a false) (mieOn (onA (fun c => { c with wr1 := 0x01#8, wr15 := 0x20#8 }) State.reset))
      (fun t => (t.chA.extLatched, t.chA.extSnap, t.ctl.ipBits)) = some (true, 0x64#8, 0b001000#6) := by decide
/-- T9: an asserted /CTS releases the held byte. -/
theorem test_cts_kicks :
    after (.cts .a false)
      (onA (fun c => { c with wr3 := 0x21#8, wr5 := 0x68#8, txq := [0x41#8], allSent := false }) State.reset)
      (fun t => (t.chA.txq, t.chA.tsr)) = some ([], frame41) := by decide
/-- S3: a change WR15 does not enable is not latched. -/
theorem test_dcd :
    after (.dcd .a false) (onA (fun c => { c with wr15 := 0x20#8 }) State.reset) (fun t => (t.chA.dcdPin, t.chA.extLatched)) =
      some (false, false) := by decide
/-- S5. -/
theorem test_sync : after (.sync .a false) State.reset (fun t => (t.chA.syncPin, t.chA.syncHunt)) = some (false, true) := by decide
/-- S6. -/
theorem test_ri : after (.ri .b false) State.reset (·.chB.riPin) = some false := by decide
/-- I2 and I7. -/
theorem test_irqState :
    answerOf .irqState threePending = some (.irqStatus true false) ∧
    answerOf .irqState (onCtl (fun k => { k with wr9 := 0x0C#8 }) State.reset) = some (.irqStatus false true) := by decide
/-- I3: slot 0 in service, its RR3 bit still set. -/
theorem test_irqAck :
    after .irqAck threePending (fun t => (t.response, t.ctl.slots.aRx, t.ctl.ipBits)) =
      some (.vector (some 0x0C#8), ⟨false, true, .rxAvailable⟩, 0x2A#6) := by decide
/-- I5: no vector, but the slot is acknowledged. -/
theorem test_irqAck_noVector :
    after .irqAck (onCtl (fun k => { k with wr9 := 0x0A#8 }) threePending) (fun t => (t.response, t.ctl.slots.aRx.ius)) =
      some (.vector none, true) := by decide
/-- R411's example. -/
theorem test_reti : after .reti twoInService (·.ctl.slots.aRx.ius) = some true := by decide
/-- Z3. -/
theorem test_reset :
    after .reset (onCtl (fun k => { k with zshift := .right, ptr := 5#4 }) busy)
      (fun t => (t.ctl.zshift, t.ctl.ptr, t.ctl.wr9, t.chA.wr12)) = some (.left, 0#4, 0x01#8, 0x0A#8) := by decide

/-- B9: shift left, register 12 of channel A. -/
theorem test_busZbusW : after (.busZbusW 0x38#6 0x34#8) zbus (·.chA.wr12) = some 0x34#8 := by decide
/-- R156's example: shift right, WR3 of channel A. -/
theorem test_busZbusW_right :
    after (.busZbusW 0x13#6 0x80#8) (onCtl (fun k => { k with zshift := .right }) zbus) (·.chA.wr3) = some 0x80#8 := by decide
/-- P7: RR15 of channel A in shift left. -/
theorem test_busZbusR : answerOf (.busZbusR 0x3E#6) zbus = some (.byte 0xF8#8) := by decide
/-- B1: declined, the pointer kept. -/
theorem test_busZbusR_declined :
    after (.busZbusR 0x03#6) (onCtl (fun k => { k with ptr := 12#4 }) State.reset) (fun t => (t.response, t.ctl.ptr)) =
      some (.byte 0x00#8, 12#4) := by decide
/-- B3: the second access of the form reaches WR2. -/
theorem test_busCdAbW :
    after (.busCdAbW 0#6 0x55#8) (onCtl (fun k => { k with ptr := 2#4 }) State.reset) (fun t => (t.ctl.wr2, t.ctl.ptr)) =
      some (0x55#8, 0#4) := by decide
/-- B4: a data read of channel B. -/
theorem test_busCdAbR :
    answerOf (.busCdAbR 3#6) (onB (fun c => { c with rxq := [⟨0x41#8, 0x00#8⟩] }) State.reset) = some (.byte 0x41#8) := by decide
/-- B5, B6, B7: RR15 read through the other orderings. -/
theorem test_control_reads :
    answerOf (.busCdBaR 1#6) (onCtl (fun k => { k with ptr := 15#4 }) State.reset) = some (.byte 0xF8#8) ∧
    answerOf (.busBaCdR 0#6) (onCtl (fun k => { k with ptr := 15#4 }) State.reset) = some (.byte 0xF8#8) ∧
    answerOf (.busBaCdInvR 1#6) (onCtl (fun k => { k with ptr := 15#4 }) State.reset) = some (.byte 0xF8#8) ∧
    answerOf (.busCaR 0#6) (onCtl (fun k => { k with ptr := 15#4 }) State.reset) = some (.byte 0xF8#8) ∧
    answerOf (.busCbR 0#6) (onCtl (fun k => { k with ptr := 15#4 }) State.reset) = some (.byte 0xF8#8) := by decide
/-- R155, R157, R158: the channels and ports of three offsets. -/
theorem test_port_writes :
    after (.busCdBaW 1#6 0x12#8) (onCtl (fun k => { k with ptr := 1#4 }) State.reset) (fun t => (t.chA.wr1, t.chB.wr1)) =
      some (0x12#8, 0x00#8) ∧
    after (.busBaCdW 1#6 0x41#8) State.reset (fun t => (t.chA.txq, t.chB.txq)) = some ([], [0x41#8]) ∧
    after (.busBaCdInvW 0#6 0x41#8) State.reset (fun t => (t.chA.txq, t.chB.txq)) = some ([0x41#8], []) := by decide
/-- P6: the write that meant WR12 is a WR0 command and leaves pointer 5. -/
theorem test_busCaW : after (.busCaW 0#6 0x55#8) State.reset (fun t => (t.chA.wr12, t.ctl.ptr)) = some (0x00#8, 5#4) := by decide
theorem test_busCbW :
    after (.busCbW 0#6 0x78#8) (onCtl (fun k => { k with ptr := 12#4 }) State.reset) (fun t => (t.chA.wr12, t.chB.wr12)) =
      some (0x00#8, 0x78#8) := by decide
/-- B8: a data write leaves the pointer. -/
theorem test_busDaW :
    after (.busDaW 0#6 0x41#8) (onCtl (fun k => { k with ptr := 3#4 }) State.reset) (fun t => (t.chA.txq, t.ctl.ptr)) =
      some ([0x41#8], 3#4) := by decide
theorem test_busDbW : after (.busDbW 0#6 0x41#8) State.reset (fun t => (t.chA.txq, t.chB.txq)) = some ([], [0x41#8]) := by decide
theorem test_data_reads :
    answerOf (.busDaR 0#6) (onA (fun c => { c with rxq := [⟨0x41#8, 0x00#8⟩] }) State.reset) = some (.byte 0x41#8) ∧
    answerOf (.busDbR 0#6) State.reset = some (.byte 0x00#8) := by decide
/-- R523: until an error reset every read returns the same byte and raises the special condition again. -/
theorem test_busDaR_locked :
    after (.busDaR 0#6) parityLocked (fun t => (t.response, t.chA.rxq, t.chA.rxLocked, t.ctl.slots.aRx)) =
      some (.byte 0x41#8, [⟨0x41#8, 0x10#8⟩, ⟨0x42#8, 0x00#8⟩], true, ⟨true, false, .special⟩) := by decide
/-- B11: on the Z-Bus the direct entry points decline. -/
theorem test_busCaR_declined : answerOf (.busCaR 0#6) zbus = some (.byte 0x00#8) := by decide

/-- Section 2.5: frames of 5, 6, 7 and 8 bits, with each parity and stop-bit setting. -/
theorem test_frames :
    frame 0x05#8 0x60#8 0x41#8 = [false, true, false, false, false, false, false, true, false, true, true] ∧
    frame 0x07#8 0x60#8 0x41#8 = [false, true, false, false, false, false, false, true, false, false, true] ∧
    frame 0x0C#8 0x20#8 0x7F#8 = [false, true, true, true, true, true, true, true, true, true] ∧
    frame 0x08#8 0x60#8 0x00#8 = [false, false, false, false, false, false, false, false, false, true, true] ∧
    frame 0x04#8 0x40#8 0x2A#8 = [false, false, true, false, true, false, true, true] ∧
    frame 0x07#8 0x00#8 0x15#8 = [false, true, false, true, false, true, true, true] := by decide
/-- Section 2.9: a row of each column. -/
theorem test_vectors :
    modifyVector Config.default 0x00#8 0x00#8 .a .rxAvailable = 0x0C#8 ∧ modifyVector Config.default 0x00#8 0xFF#8 .b .txEmpty = 0xF1#8 ∧
    modifyVector Config.default 0x10#8 0x00#8 .b .extStatus = 0x10#8 ∧ modifyVector Config.default 0x10#8 0xFF#8 .a .txEmpty = 0xCF#8 ∧
    modifyVector { Config.default with statusHighReversed := true } 0x10#8 0x00#8 .a .rxAvailable = 0x30#8 := by decide

/-! ### Witnesses: a state and operands that meet the hypotheses of each statement that has any -/

theorem witness_DecodeOfEncodeIsTheInstruction : (Instr.wr0PointHigh .b 0x0B#8).wellFormed = true := by decide
theorem witness_EncodeOfDecodeIsTheWord : decode (.op 0x1B50#16) = .ok (.wr11 .b 0x50#8) := by decide
theorem witness_InvalidWordsAreExactlyTheListedOnes :
    ∃ (s : State) (rest : List HostWord), s.pending = .op 0xC400#16 :: rest ∧ decode (.op 0xC400#16) = .error .unknownControl :=
  ⟨{ busy with pending := [.op 0xC400#16, .op 0xC200#16] }, [.op 0xC200#16], rfl, by decide⟩
theorem witness_StepRunsTheDecodedOperation_issued :
    ∃ (s : State) (rest : List HostWord), s.pending = .op 0x0841#16 :: rest ∧ decode (.op 0x0841#16) = .ok (.wr8 .a 0x41#8) :=
  ⟨{ busy with pending := [.op 0x0841#16, .op 0x8000#16] }, [.op 0x8000#16], rfl, by decide⟩
theorem witness_StepRunsTheDecodedOperation_placed :
    decodeTableWord 24 0x68000 = some (.busCbR 0#6) ∧ decodeTableWord 16 0xC100 = some .irqAck := by decide
theorem witness_StepRunsTheDecodedOperation_none : busy.pending = [] := rfl
/-- Each of the outcomes occurs: completion, and either refusal. -/
theorem witness_StepIsRefused :
    (∃ t, step { busy with pending := [.op 0x8000#16] } = .next t) ∧
    step { busy with pending := [.bus 0x04000#20] } = .refused (.invalidWord .reservedBit14) ∧
    step { onB (fun c => { c with wr4 := 0x00#8 }) busy with pending := [.op 0x9100#16] } = .refused (.synchronousMode .b) :=
  ⟨⟨_, rfl⟩, rfl, rfl⟩

/-- Parameters R7 admits at their least values, and the default's. -/
theorem witness_InvariantHoldsAtReset :
    ({ Config.default with variant := .emscc, bus := .zBus, pclkHz := 1, rtxcHzA := 1, rtxcHzB := 1 } : Config).positive = true ∧
    Config.default.positive = true := by decide

/-- The witness of the invariant is a chip in the middle of its work, not the reset state. -/
theorem witness_Inv : Inv busy where
  cfgPositive := by decide
  wr9High := by decide
  pendingShown := by intro i; cases i <;> decide
  pointerUBus := by decide
  shiftZBus := by decide
  chanA := by constructor <;> decide
  chanB := by constructor <;> decide

/-- The same chip with one more operation issued. -/
theorem witness_StepKeepsTheInvariant :
    ∃ s t, Inv s ∧ s.pending = [.op 0x0C16#16] ∧ step s = .next t :=
  ⟨{ busy with pending := [.op 0x0C16#16] }, _,
    ⟨witness_Inv.cfgPositive, witness_Inv.wr9High, witness_Inv.pendingShown, witness_Inv.pointerUBus, witness_Inv.shiftZBus,
      witness_Inv.chanA, witness_Inv.chanB⟩, rfl, rfl⟩
theorem witness_StepKeepsTheParameters : ∃ t, step { busy with pending := [.op 0xC300#16] } = .next t := ⟨_, rfl⟩

/-- A draw with every drawn bit 1. -/
def ones : PowerOnDraw :=
  let c : ChannelDraw := ⟨0xFF#8, 0xFF#8, 0xFF#8, 0xFF#8, 0xFF#8, 0xFF#8, 0xFF#8, 0xFF#8, true⟩
  ⟨0xFF#8, 0xFF#8, c, c⟩
theorem witness_ConstructionIsAHardwareResetOverTheDraw : ∃ s, Drawn ones s ∧ s.cfg.isEscc = true :=
  let f := fun (c : Channel) => { c with
    wr1 := 0xFF#8, wr3 := 0xFF#8, wr4 := 0xFF#8, wr5 := 0xFF#8, wr6 := 0xFF#8, wr7 := 0xFF#8, wr12 := 0xFF#8, wr13 := 0xFF#8,
    syncHunt := true }
  ⟨onCtl (fun k => { k with wr2 := 0xFF#8, wr9 := 0xFF#8 }) (onB f (onA f escc)),
    ⟨rfl, rfl, by intro ch; cases ch <;> decide⟩, rfl⟩

theorem witness_uBus : State.reset.cfg.bus = .uBus ∧ busy.cfg.bus = .uBus ∧ State.reset.ctl.ptr = 0#4 := ⟨rfl, rfl, rfl⟩
theorem witness_zBus : zbus.cfg.bus = .zBus ∧ (onCtl (fun k => { k with zshift := .right }) zbus).ctl.zshift = .right := ⟨rfl, rfl⟩
theorem witness_CrcResetCodesHaveNoEffect : ∃ row ∈ wr0Rows, (row .a 0xC0#8).wellFormed = true := ⟨.wr0Null, by simp [wr0Rows], by decide⟩
theorem witness_Wr14WriteHandlesTheEnableEdges : ∃ row ∈ wr14Rows, (row .a 0xE1#8).wellFormed = true :=
  ⟨.wr14DpllNrziMode, by simp [wr14Rows], by decide⟩
theorem witness_ResetHighestIus_none : ∀ i, (threePending.slot i).ius = false := by intro i; cases i <;> decide
/-- Slot 0 first in service, and slot 4 first in service. -/
theorem witness_ResetHighestIus_found :
    ((twoInService.slot .aRx).ius = true ∧ ∀ j : SlotId, j.index < SlotId.aRx.index → (twoInService.slot j).ius = false) ∧
    ((busy.slot .aTx).ius = true ∧ ∀ j : SlotId, j.index < SlotId.aTx.index → (busy.slot j).ius = false) :=
  ⟨⟨by decide, by intro j; cases j <;> decide⟩, by decide, by intro j; cases j <;> decide⟩
/-- Room for a last byte, and no room, on both FIFO depths. -/
theorem witness_DataWritePushesOrDrops :
    State.reset.chA.txq.length < 1 ∧ ¬ (onA (fun c => { c with txq := [0x01#8] }) State.reset).chA.txq.length < 1 ∧
    (onA (fun c => { c with txq := [0x01#8, 0x02#8, 0x03#8] }) escc).chA.txq.length < 4 ∧
    ¬ (onA (fun c => { c with txq := [0x01#8, 0x02#8, 0x03#8, 0x04#8] }) escc).chA.txq.length < 4 := by decide
theorem witness_ErrorResetFreesTheLockedEntry :
    (rxFull.chan .a).rxLocked = false ∧ (locked.chan .a).rxLocked = true ∧ (locked.chan .a).rxq = ⟨0x44#8, 0x20#8⟩ :: [] :=
  ⟨rfl, rfl, rfl⟩
theorem witness_DataReadPopsOrLocks :
    (State.reset.chan .a).rxq = [] ∧ (rxFull.chan .a).rxq = ⟨0x11#8, 0x00#8⟩ :: [⟨0x22#8, 0x00#8⟩, ⟨0x33#8, 0x00#8⟩] ∧
    (locked.chan .a).rxq = ⟨0x44#8, 0x20#8⟩ :: [] ∧ (parityLocked.chan .a).rxq = ⟨0x41#8, 0x10#8⟩ :: [⟨0x42#8, 0x00#8⟩] :=
  ⟨rfl, rfl, rfl, rfl⟩
/-- A data read, an error reset of the other channel, and a WR1 write leave channel A locked. -/
theorem witness_DataReadPopsOrLocks_kept :
    (parityLocked.chan .a).rxLocked = true ∧
    (¬ IsErrorReset parityLocked .a (.busDaR 0#6) ∧ ¬ ResetsChannel parityLocked .a (.busDaR 0#6) ∧
      ∃ t, exec (.busDaR 0#6) parityLocked = .next t) ∧
    (¬ IsErrorReset parityLocked .a (.wr0ErrorReset .b 0x30#8) ∧ ¬ ResetsChannel parityLocked .a (.wr0ErrorReset .b 0x30#8) ∧
      ∃ t, exec (.wr0ErrorReset .b 0x30#8) parityLocked = .next t) :=
  ⟨rfl,
    ⟨by simp [IsErrorReset, accessOf, uBusPort], by simp [ResetsChannel, IsHardwareReset, accessOf, uBusPort], _, rfl⟩,
    by simp [IsErrorReset, accessOf, uBusPort, wordAccess],
    by simp [ResetsChannel, IsHardwareReset, accessOf, uBusPort, wordAccess], _, rfl⟩

/-- An idle enabled NMOS transmitter with one byte waiting and the transmit interrupt enabled. -/
def readyToSend : State :=
  mieOn (onA (fun c => { c with wr1 := 0x02#8, wr5 := 0x68#8, txq := [0x41#8], allSent := false }) State.reset)

/-- It starts and raises the interrupt; disarmed it starts and raises none; with the break sent it does not start. -/
theorem witness_TxKickStartsACharacterExactlyWhenAllowed :
    (State.reset.chan .a).txq = [] ∧ (readyToSend.chan .a).txq = 0x41#8 :: [] ∧
    ((readyToSend.chan .a).wr5.getLsbD 3 = true ∧ (readyToSend.chan .a).wr5.getLsbD 4 = false ∧ (readyToSend.chan .a).tsr = [] ∧
      ¬((readyToSend.chan .a).wr3.getLsbD 5 = true ∧ (readyToSend.chan .a).ctsPin = true)) ∧
    ((readyToSend.chan .a).txq.length = 1 ∧ (readyToSend.chan .a).txIntDisarmed = false ∧
      (readyToSend.chan .a).wr1.getLsbD 1 = true) ∧
    ((onA (fun c => { c with txIntDisarmed := true }) readyToSend).chan .a).txIntDisarmed = true ∧
    ((onA (fun c => { c with wr5 := 0x78#8 }) readyToSend).chan .a).wr5.getLsbD 4 = true := by decide
theorem witness_FrameHasTheAsynchronousLayout : (0x07#8 : Byte).getLsbD 0 = true ∧ (0x07#8 : Byte).getLsbD 1 = true := by decide
theorem witness_clockEdges :
    (State.reset.chan .a).wr4.extractLsb' 2 2 ≠ 0b00#2 ∧
    ((onA (fun c => { c with wr4 := 0xC0#8 }) State.reset).chan .a).wr4.extractLsb' 2 2 = 0b00#2 := by decide
theorem witness_ReceiveDataPushesOrOverruns : (rxFull.chan .a).rxq.length = 3 := rfl

/-- A receiver at x16 with even parity, of the transmitter's word length, five bits, idle and enabled. -/
def listening : State :=
  onA (fun c => { c with wr3 := 0x21#8, wr4 := 0x4F#8, wr5 := 0x08#8, dcdPin := false }) State.reset
theorem witness_ReceiverRecoversEveryTransmittedCharacter :
    Clocked listening .a ∧ (listening.chan .a).rxs = .idle ∧ (listening.chan .a).rxDiv = 0 ∧ rxGated (listening.chan .a) = false ∧
    rxBits (listening.chan .a).wr3 = txBits (listening.chan .a).wr5 := by unfold Clocked; decide
theorem witness_TriggerAndClearWriteOneSlot :
    State.reset.ctl.wr9.getLsbD 3 = false ∧ threePending.ctl.wr9.getLsbD 3 = true ∧
    SlotId.bExt ≠ slotOf .a IntType.rx.condition ∧ 0 < 6 ∧ 0 ≠ 5 - (slotOf .a Condition.rx).index := by decide
theorem witness_Acknowledge_none : ∀ i, (twoInService.slot i).ip = false := by intro i; cases i <;> decide
/-- Slot 5 alone pending. -/
def lastPending : State :=
  onCtl (fun k => { k with slots := { k.slots with bExt := ⟨true, false, .extStatus⟩ } }) twoInService
/-- The first slot, and the last slot alone. -/
theorem witness_Acknowledge_found :
    ((threePending.slot .aRx).ip = true ∧ ∀ j : SlotId, j.index < SlotId.aRx.index → (threePending.slot j).ip = false) ∧
    ((lastPending.slot .bExt).ip = true ∧ ∀ j : SlotId, j.index < SlotId.bExt.index → (lastPending.slot j).ip = false) :=
  ⟨⟨by decide, by intro j; cases j <;> decide⟩, by decide, by intro j; cases j <;> decide⟩
theorem witness_VectorCarriesTheStatusCode : (0x09#8 : Byte).getLsbD 4 = false ∧ (0x19#8 : Byte).getLsbD 4 = true := by decide
theorem witness_extendedRead :
    (extended.cfg.isEscc = true ∧ (extended.chan .a).wr7p.getLsbD 6 = true) ∧
    ¬(escc.cfg.isEscc = true ∧ (escc.chan .a).wr7p.getLsbD 6 = true) := by decide
/-- B9 and B3: what a Z-Bus write and a control write come to. -/
theorem test_accessOf :
    accessOf zbus (.busZbusW 0x38#6 0x34#8) = some (.write .a 12#4 0x34#8) ∧
    accessOf (onCtl (fun k => { k with ptr := 2#4 }) State.reset) (.busCdAbW 0#6 0x55#8) = some (.write .a 2#4 0x55#8) ∧
    accessOf State.reset (.busCdAbR 3#6) = some (.read .b 8#4) ∧ accessOf State.reset (.busZbusR 0x03#6) = none ∧
    accessOf zbus (.busCaR 0#6) = none := by decide
/-- A data write on the Universal-Bus, and a WR0 write and a Z-Bus access on the Z-Bus. -/
theorem witness_PointerIsDisturbedOnlyByControlAccesses :
    (¬ DisturbsPointer busy (.busDaW 0#6 0x41#8) ∧ ∃ t, exec (.busDaW 0#6 0x41#8) busy = .next t) ∧
    (¬ DisturbsPointer zbus (.wr0PointHigh .a 0x0B#8) ∧ ∃ t, exec (.wr0PointHigh .a 0x0B#8) zbus = .next t) ∧
    (¬ DisturbsPointer zbus (.busZbusW 0x32#6 0x80#8) ∧ ∃ t, exec (.busZbusW 0x32#6 0x80#8) zbus = .next t) :=
  ⟨⟨by simp [DisturbsPointer, IsControlAccess, IsHardwareReset, accessOf, uBusPort], _, rfl⟩,
    ⟨by simp [DisturbsPointer, IsControlAccess, IsHardwareReset, accessOf, uBusPort, wordAccess, zbus, State.construct], _, rfl⟩,
    by simp [DisturbsPointer, IsControlAccess, IsHardwareReset, accessOf, uBusPort, zbus, State.construct], _, rfl⟩
theorem witness_OperationsOnOneChannelLeaveTheOther :
    (namedChannel (.wr5 .b 0x68#8) = some .b ∧ ∃ t, exec (.wr5 .b 0x68#8) busy = .next t) ∧
    (accessOf zbus (.busZbusW 0x38#6 0x34#8) = some (.write .a 12#4 0x34#8) ∧ ∃ t, exec (.busZbusW 0x38#6 0x34#8) zbus = .next t) ∧
    (accessOf busy (.busDbR 0#6) = some (.read .b 8#4) ∧ ∃ t, exec (.busDbR 0#6) busy = .next t) :=
  ⟨⟨rfl, _, rfl⟩, ⟨by decide, _, rfl⟩, by decide, _, rfl⟩
theorem witness_NothingBecomesPendingWhileMieIsClear :
    ∃ s t, s.ctl.wr9.getLsbD 3 = false ∧ exec (.wr8 .b 0x31#8) s = .next t ∧ (t.slot .aRx).ip = true :=
  ⟨onCtl (fun k => { k with wr9 := 0x21#8 }) busy, _, by decide, rfl, by decide⟩
/-- R527's example on the bus: the pointer at 6, and a control read of channel B puts slot 0 in service. -/
theorem witness_SlotsEnterServiceOnlyByAcknowledge :
    (∃ t, exec .irqAck threePending = .next t ∧ (t.slot .aRx).ius = true) ∧
    (∃ t, exec (.rr2 .b) busy = .next t ∧ (t.slot .aRx).ius = true ∧ IsSoftAck busy (.rr2 .b)) ∧
    ∃ t, let s := onCtl (fun k => { k with ptr := 6#4 }) busy
      exec (.busCbR 0#6) s = .next t ∧ (s.slot .aRx).ius = false ∧ (t.slot .aRx).ius = true ∧ IsSoftAck s (.busCbR 0#6) :=
  ⟨⟨_, rfl, by decide⟩, ⟨_, rfl, by decide, by unfold IsSoftAck; decide⟩, _, rfl, by decide, by decide, by unfold IsSoftAck; decide⟩
theorem witness_StoredVectorChangesOnlyByAWr2Write :
    (∃ t, exec (.wr2 .b 0x40#8) State.reset = .next t ∧ t.ctl.wr2 ≠ State.reset.ctl.wr2) ∧
    ∃ t, exec (.busZbusW 0x24#6 0x40#8) zbus = .next t ∧ t.ctl.wr2 ≠ zbus.ctl.wr2 ∧
      accessOf zbus (.busZbusW 0x24#6 0x40#8) = some (.write .a 2#4 0x40#8) :=
  ⟨⟨_, rfl, by decide⟩, _, rfl, by decide, by decide⟩
/-- A clock edge, a reset of the other channel, and a data write to the other channel. -/
theorem witness_DisarmedTransmitInterruptStaysQuiet :
    (busy.chan .a).txIntDisarmed = true ∧
    (¬ IsDataWrite busy .a (.txc .a) ∧ ¬ ResetsChannel busy .a (.txc .a) ∧ ∃ t, exec (.txc .a) busy = .next t) ∧
    (¬ IsDataWrite busy .a (.wr9ResetB .a 0x48#8) ∧ ¬ ResetsChannel busy .a (.wr9ResetB .a 0x48#8) ∧
      ∃ t, exec (.wr9ResetB .a 0x48#8) busy = .next t) ∧
    (¬ IsDataWrite busy .a (.busDbW 0#6 0x41#8) ∧ ¬ ResetsChannel busy .a (.busDbW 0#6 0x41#8) ∧
      ∃ t, exec (.busDbW 0#6 0x41#8) busy = .next t) :=
  ⟨rfl,
    ⟨by simp [IsDataWrite, accessOf, uBusPort, wordAccess], by simp [ResetsChannel, IsHardwareReset, accessOf, uBusPort, wordAccess], _, rfl⟩,
    ⟨by simp [IsDataWrite, accessOf, uBusPort, wordAccess], by simp [ResetsChannel, IsHardwareReset, accessOf, uBusPort, wordAccess], _, rfl⟩,
    by rintro ⟨v, h⟩; simp [accessOf, uBusPort] at h, by simp [ResetsChannel, IsHardwareReset, accessOf, uBusPort], _, rfl⟩

end Sys2Proof.Tests
end

/-! ## What a completed operation does

`ChannelEffect ch s t` lists what the operations that name channel `ch` can make of `s`, and `Effect s t` what any operation can,
the response apart. `exec_effect` says that nothing else happens; the statements about every step go through these two lists and
not through the rows of `exec`. -/

namespace Sys2Proof.Machine

open Sys2Proof.Claims

/-- What an operation that reaches channel `ch` can do: nothing, a WR0 command, a write of a register other than WR0 and WR9, a
data read, an acknowledge (by a read of RR2, R263), or a line or clock event. -/
inductive ChannelEffect (ch : ChanId) (s : State) : State → Prop
  | unchanged : ChannelEffect ch s s
  | command {c : State → State} (hc : c ∈ wr0Commands ch) (v : Byte) : ChannelEffect ch s (wr0Effects c v s)
  | write {n : BitVec 4} (h0 : n ≠ 0#4) (h9 : n ≠ 9#4) (v : Byte) : ChannelEffect ch s (regWrite ch n v s)
  | dataRead : ChannelEffect ch s (dataRead ch s).2
  | acknowledge (i : SlotId) : ChannelEffect ch s (acknowledge i s)
  | txClockEdge : ChannelEffect ch s (txClockEdge ch s)
  | rxClockEdge : ChannelEffect ch s (rxClockEdge ch s)
  | rxdEvent (l : Bool) : ChannelEffect ch s (rxdEvent ch l s)
  | ctsEvent (l : Bool) : ChannelEffect ch s (ctsEvent ch l s)
  | dcdEvent (l : Bool) : ChannelEffect ch s (dcdEvent ch l s)
  | syncEvent (l : Bool) : ChannelEffect ch s (syncEvent ch l s)
  | riEvent (l : Bool) : ChannelEffect ch s (riEvent ch l s)

/-- What any operation can do: an effect of a channel, one of the WR9 writes (R216), or the reset pin (R501). -/
inductive Effect (s : State) : State → Prop
  | channel {ch : ChanId} {t : State} (h : ChannelEffect ch s t) : Effect s t
  | storeWr9 (v : Byte) : Effect s (storeWr9 v s)
  | channelReset (ch : ChanId) (v : Byte) : Effect s (channelReset ch (storeWr9 v s))
  | wr9HwReset (v : Byte) : Effect s (wr9HwReset v s)
  | reset : Effect s (hardwareReset false s)

/-! ### The register words -/

/-- A register word of class 00, WR0 and WR9 apart, is the register write it names (R160). -/
theorem exec_of_wordWrite {i : Instr} {ch : ChanId} {n : BitVec 4} {v : Byte}
    (hi : wordAccess i = some (.write ch n v)) (h0 : n ≠ 0#4) (h9 : n ≠ 9#4) (s : State) :
    exec i s = done (regWrite ch n v s) := by
  cases i <;> cases hi
  case wr0Null | wr0PointHigh | wr0ResetExtStatus | wr0SendAbort | wr0EnableIntNextRx | wr0ResetTxInt | wr0ErrorReset
    | wr0ResetHighestIus => exact absurd rfl h0
  case wr9NoReset | wr9ResetB | wr9ResetA | wr9HwReset => exact absurd rfl h9
  all_goals rfl

/-- A register word of class 01 is the register read it names (R161). -/
theorem exec_of_wordRead {i : Instr} {ch : ChanId} {n : BitVec 4}
    (hi : wordAccess i = some (.read ch n)) (s : State) : exec i s = answer (regRead ch n s) := by
  cases i <;> cases hi
  case rr4 | rr5 | rr9 | rr11 | rr14 =>
    simp only [exec, execRr4, execRr5, execRr9, execRr11, execRr14, readRr4, readRr5, readRr9, readRr11, readRr14, regRead]
    cases isExtended ch s <;> rfl
  all_goals rfl

/-- A register read has an effect of its channel. -/
theorem regRead_channelEffect (ch : ChanId) (n : BitVec 4) (s : State) : ChannelEffect ch s (regRead ch n s).2 := by
  obtain h | ⟨-, h⟩ | ⟨-, -, -, -, i, -, h⟩ := regRead_cases ch n s <;> rw [h]
  · exact .unchanged
  · exact .dataRead
  · exact .acknowledge i

/-- A register write, WR9 apart, has an effect of its channel. -/
theorem regWrite_channelEffect (ch : ChanId) {n : BitVec 4} (h9 : n ≠ 9#4) (v : Byte) (s : State) :
    ChannelEffect ch s (regWrite ch n v s) := by
  by_cases h0 : n = 0#4
  · subst h0
    show ChannelEffect ch s (writeWr0 ch v s)
    obtain ⟨c, hc, h⟩ := writeWr0_cases ch v s
    have e := ChannelEffect.command (s := s) hc v
    rwa [wr0Effects, wr0CrcReset_eq, ← h] at e
  · exact .write h0 h9 v

theorem writeWr9_effect (v : Byte) (s : State) : Effect s (writeWr9 v s) := by
  unfold writeWr9
  split
  · exact .storeWr9 v
  · exact .channelReset .b v
  · exact .channelReset .a v
  · exact .wr9HwReset v

theorem regWrite_effect (ch : ChanId) (n : BitVec 4) (v : Byte) (s : State) : Effect s (regWrite ch n v s) := by
  by_cases h9 : n = 9#4
  · subst h9; exact writeWr9_effect v s
  · exact .channel (regWrite_channelEffect ch h9 v s)

/-! ### The operations that name a channel -/

/-- What completes by `done` is the state with nothing as its response. -/
theorem done_next {s t : State} (h : done s = .next t) : t = s.respond .nothing := by cases h; rfl

/-- What completes by `answer` is the state read from with the byte as its response. -/
theorem answer_next {r : Byte × State} {t : State} (h : answer r = .next t) : t = r.2.respond (.byte r.1) := by cases h; rfl

theorem execTxc_next {ch : ChanId} {s t : State} (h : execTxc ch s = .next t) : t = (txClockEdge ch s).respond .nothing := by
  unfold execTxc at h
  split at h
  · cases h
  · exact done_next h

theorem execRxc_next {ch : ChanId} {s t : State} (h : execRxc ch s = .next t) : t = (rxClockEdge ch s).respond .nothing := by
  unfold execRxc at h
  split at h
  · cases h
  · exact done_next h

/-- An operation that names a channel has an effect of that channel. -/
theorem exec_channelEffect {i : Instr} {ch : ChanId} {s t : State} (hi : namedChannel i = some ch)
    (h : exec i s = .next t) : ∃ u r, ChannelEffect ch s u ∧ t = u.respond r := by
  have write : ∀ n v, wordAccess i = some (.write ch n v) → n ≠ 0#4 → n ≠ 9#4 →
      ∃ u r, ChannelEffect ch s u ∧ t = u.respond r := fun n v w h0 h9 =>
    ⟨_, _, .write h0 h9 v, done_next ((exec_of_wordWrite w h0 h9 s).symm.trans h)⟩
  have read : ∀ n, wordAccess i = some (.read ch n) → ∃ u r, ChannelEffect ch s u ∧ t = u.respond r := fun n w =>
    ⟨_, _, regRead_channelEffect ch n s, answer_next ((exec_of_wordRead w s).symm.trans h)⟩
  cases i <;> cases hi
  case wr0Null | wr0PointHigh | wr0ResetExtStatus | wr0SendAbort | wr0EnableIntNextRx | wr0ResetTxInt | wr0ErrorReset
    | wr0ResetHighestIus => exact ⟨_, _, .command (by simp) _, done_next h⟩
  case wr1 | wr2 | wr3 | wr4 | wr5 | wr6 | wr7 | wr8 | wr10 | wr11 | wr12 | wr13 | wr14DpllNull | wr14DpllEnterSearch
    | wr14DpllResetMissingClock | wr14DpllDisable | wr14DpllSourceBrg | wr14DpllSourceRtxc | wr14DpllFmMode | wr14DpllNrziMode
    | wr15 => exact write _ _ rfl (by decide) (by decide)
  case txc => exact ⟨_, _, .txClockEdge, execTxc_next h⟩
  case rxc => exact ⟨_, _, .rxClockEdge, execRxc_next h⟩
  case rxd l => exact ⟨_, _, .rxdEvent l, done_next h⟩
  case cts l => exact ⟨_, _, .ctsEvent l, done_next h⟩
  case dcd l => exact ⟨_, _, .dcdEvent l, done_next h⟩
  case sync l => exact ⟨_, _, .syncEvent l, done_next h⟩
  case ri l => exact ⟨_, _, .riEvent l, done_next h⟩
  all_goals exact read _ rfl

/-! ### The bus words -/

/-- The data or the control port of a channel. -/
def portTarget (data : Bool) (ch : ChanId) : BusTarget := if data then .data ch else .control ch

/-- The register a port reaches: the data port is register 8, the control port the one the pointer names (R152, R153). -/
def portReg (data : Bool) (s : State) : BitVec 4 := if data then 8#4 else s.ctl.ptr

/-- The state a port's register access starts from: a control port takes the pointer (R152). -/
def portState (data : Bool) (s : State) : State := if data then s else (takePointer s).2

/-! The two offset decodes that name channel A by a 0 bit (R154, R158); the other two are `portTarget` by definition. -/

theorem cdAbTarget_eq (o : BitVec 6) : cdAbTarget o = portTarget (o.getLsbD 1) (aIf (!o.getLsbD 0)) := by
  unfold cdAbTarget portTarget aIf; cases o.getLsbD 0 <;> rfl
theorem baCdInvTarget_eq (o : BitVec 6) : baCdInvTarget o = portTarget (!o.getLsbD 0) (aIf (!o.getLsbD 1)) := by
  unfold baCdInvTarget portTarget aIf; cases o.getLsbD 0 <;> cases o.getLsbD 1 <;> rfl

/-- A write word of a Universal-Bus entry point writes the port it selects (R150). -/
theorem exec_of_portWrite {i : Instr} {data : Bool} {ch : ChanId} {v : Byte}
    (hi : uBusPort i = some (data, ch, some v)) (s : State) : exec i s = done (uBusWrite (portTarget data ch) v s) := by
  cases i <;> cases hi
  case busCdAbW o => rw [← cdAbTarget_eq]; rfl
  case busBaCdInvW o => rw [← baCdInvTarget_eq]; rfl
  all_goals rfl

/-- A read word of a Universal-Bus entry point reads the port it selects (R150). -/
theorem exec_of_portRead {i : Instr} {data : Bool} {ch : ChanId}
    (hi : uBusPort i = some (data, ch, none)) (s : State) : exec i s = answer (uBusRead (portTarget data ch) s) := by
  cases i <;> cases hi
  case busCdAbR o => rw [← cdAbTarget_eq]; rfl
  case busBaCdInvR o => rw [← baCdInvTarget_eq]; rfl
  all_goals rfl

/-- A port write is declined on the Z-Bus (R151) and a register write on the Universal-Bus. -/
theorem uBusWrite_portTarget (data : Bool) (ch : ChanId) (v : Byte) (s : State) :
    uBusWrite (portTarget data ch) v s =
      if s.cfg.isZBus then s else regWrite ch (portReg data s) v (portState data s) := by
  cases data <;> rfl

/-- A port read is declined on the Z-Bus (R151) and a register read on the Universal-Bus. -/
theorem uBusRead_portTarget (data : Bool) (ch : ChanId) (s : State) :
    uBusRead (portTarget data ch) s =
      if s.cfg.isZBus then (0x00#8, s) else regRead ch (portReg data s) (portState data s) := by
  unfold uBusRead
  split
  · rfl
  · cases data
    · rfl
    · unfold portReg portState regRead
      cases isExtended ch s <;> rfl

/-- How a bus word whose access is `a` completes: an access the bus family declines changes nothing (R151); any other is the
register access, from the state its port leaves. -/
inductive BusOutcome (s : State) : Option RegAccess → Host.Outcome State Fault Refusal → Prop
  | declined (r : Response) : BusOutcome s none (.next (s.respond r))
  | write (data : Bool) (ch : ChanId) (n : BitVec 4) (v : Byte) :
      BusOutcome s (some (.write ch n v)) (done (regWrite ch n v (portState data s)))
  | read (data : Bool) (ch : ChanId) (n : BitVec 4) :
      BusOutcome s (some (.read ch n)) (answer (regRead ch n (portState data s)))

theorem isZBus_eq_decide (c : Config) : c.isZBus = decide (c.bus = .zBus) := by
  unfold Config.isZBus; cases c.bus <;> rfl

theorem accessOf_of_port {i : Instr} {data : Bool} {ch : ChanId} {value : Option Byte}
    (hi : uBusPort i = some (data, ch, value)) (s : State) :
    accessOf s i =
      if s.cfg.bus = .uBus then
        some (match value with | some v => .write ch (portReg data s) v | none => .read ch (portReg data s))
      else none := by
  cases i <;> cases hi <;> rfl

theorem busOutcome_of_port {i : Instr} {p : Bool × ChanId × Option Byte} (hi : uBusPort i = some p) (s : State) :
    BusOutcome s (accessOf s i) (exec i s) := by
  obtain ⟨data, ch, value⟩ := p
  rw [accessOf_of_port hi]
  cases value with
  | some v =>
    rw [exec_of_portWrite hi, uBusWrite_portTarget, isZBus_eq_decide]
    cases s.cfg.bus
    · exact .declined _
    · exact .write data ch _ v
  | none =>
    rw [exec_of_portRead hi, uBusRead_portTarget, isZBus_eq_decide]
    cases s.cfg.bus
    · exact .declined _
    · exact .read data ch _

theorem busOutcome_of_zbusWrite (o : BitVec 6) (v : Byte) (s : State) :
    BusOutcome s (accessOf s (.busZbusW o v)) (exec (.busZbusW o v) s) := by
  simp only [accessOf, exec, execBusZbusW, zBusWrite, isZBus_eq_decide]
  cases s.cfg.bus
  · exact .write true _ _ v
  · exact .declined _

theorem busOutcome_of_zbusRead (o : BitVec 6) (s : State) :
    BusOutcome s (accessOf s (.busZbusR o)) (exec (.busZbusR o) s) := by
  simp only [accessOf, exec, execBusZbusR, zBusRead, isZBus_eq_decide]
  cases s.cfg.bus
  · exact .read true _ _
  · exact .declined _

/-- An access of a word of no Universal-Bus port is that of a register word, or of a Z-Bus word that is not declined. -/
theorem accessOf_cases_of_no_port {s : State} {i : Instr} {a : RegAccess} (hp : uBusPort i = none)
    (h : accessOf s i = some a) : wordAccess i = some a ∨ BusOutcome s (some a) (exec i s) := by
  cases i <;> cases hp
  case busZbusW o v => exact .inr (h ▸ busOutcome_of_zbusWrite o v s)
  case busZbusR o => exact .inr (h ▸ busOutcome_of_zbusRead o s)
  all_goals exact .inl h

/-- The access of an operation is that of a register word, or of a bus word that is not declined. -/
theorem accessOf_cases {s : State} {i : Instr} {a : RegAccess} (h : accessOf s i = some a) :
    wordAccess i = some a ∨ BusOutcome s (some a) (exec i s) := by
  cases hp : uBusPort i with
  | some p => exact .inr (h ▸ busOutcome_of_port hp s)
  | none => exact accessOf_cases_of_no_port hp h

/-- A register word names its channel, WR9 apart. -/
theorem namedChannel_of_wordWrite {i : Instr} {ch : ChanId} {n : BitVec 4} {v : Byte}
    (h : wordAccess i = some (.write ch n v)) (h9 : n ≠ 9#4) : namedChannel i = some ch := by
  cases i <;> cases h
  case wr9NoReset | wr9ResetB | wr9ResetA | wr9HwReset => exact absurd rfl h9
  all_goals rfl

theorem namedChannel_of_wordRead {i : Instr} {ch : ChanId} {n : BitVec 4}
    (h : wordAccess i = some (.read ch n)) : namedChannel i = some ch := by
  cases i <;> cases h <;> rfl

/-! ### Every operation -/

/-- A bus word has an effect, from the state its port leaves. -/
theorem BusOutcome.effect {s t : State} {a : Option RegAccess} {o : Host.Outcome State Fault Refusal}
    (h : BusOutcome s a o) (ho : o = .next t) : ∃ data u r, Effect (portState data s) u ∧ t = u.respond r := by
  cases h with
  | declined r => cases ho; exact ⟨true, s, r, .channel (ch := .a) .unchanged, rfl⟩
  | write data ch n v => exact ⟨data, _, _, regWrite_effect ch n v _, done_next ho⟩
  | read data ch n => exact ⟨data, _, _, .channel (regRead_channelEffect ch n _), answer_next ho⟩

/-- The acknowledge of R409 changes at most one slot. -/
theorem irqAcknowledge_effect (s : State) : Effect s (irqAcknowledge s).2 := by
  unfold irqAcknowledge
  split
  · exact .channel (ch := .a) .unchanged
  · exact .channel (ch := .a) (.acknowledge _)

/-- A word that names no channel: a WR9 write, a controller operation or a bus word. -/
theorem exec_effect_of_no_channel {i : Instr} {s t : State} (hi : namedChannel i = none) (h : exec i s = .next t) :
    ∃ data u r, Effect (portState data s) u ∧ t = u.respond r := by
  cases i <;> cases hi
  case wr9NoReset v => exact ⟨true, _, _, .storeWr9 v, done_next h⟩
  case wr9ResetB v => exact ⟨true, _, _, .channelReset .b v, done_next h⟩
  case wr9ResetA v => exact ⟨true, _, _, .channelReset .a v, done_next h⟩
  case wr9HwReset v => exact ⟨true, _, _, .wr9HwReset v, done_next h⟩
  case irqState => cases h; exact ⟨true, s, _, .channel (ch := .a) .unchanged, rfl⟩
  case irqAck => cases h; exact ⟨true, _, _, irqAcknowledge_effect s, rfl⟩
  case reti => exact ⟨true, s, _, .channel (ch := .a) .unchanged, done_next h⟩
  case reset => exact ⟨true, _, _, .reset, done_next h⟩
  case busZbusW o v => exact (busOutcome_of_zbusWrite o v s).effect h
  case busZbusR o => exact (busOutcome_of_zbusRead o s).effect h
  all_goals exact (busOutcome_of_port rfl s).effect h

/-- Every completed operation has one of the effects, from the state itself or from the one a control port leaves. -/
theorem exec_effect {i : Instr} {s t : State} (h : exec i s = .next t) :
    ∃ data u r, Effect (portState data s) u ∧ t = u.respond r := by
  cases hc : namedChannel i with
  | some ch =>
    obtain ⟨u, r, hu, ht⟩ := exec_channelEffect hc h
    exact ⟨true, u, r, .channel hu, ht⟩
  | none => exact exec_effect_of_no_channel hc h

/-- A step changes nothing, or takes the oldest issued word and carries its operation out. -/
theorem step_next_cases {s t : State} (h : step s = .next t) :
    t = s ∨ ∃ rest i, exec i { s with pending := rest } = .next t := by
  unfold step fetch at h
  split at h
  · cases h; exact .inl rfl
  · next e =>
    split at e
    · cases e
    · next w rest _ =>
      cases e
      split at h
      · exact .inr ⟨rest, _, h⟩
      · cases h

end Sys2Proof.Machine

/-! ## What every operation leaves alone -/

namespace Sys2Proof.Machine

open Sys2Proof.Claims

@[simp] theorem portState_cfg (data : Bool) (s : State) : (portState data s).cfg = s.cfg := by cases data <;> rfl
@[simp] theorem portState_chan (data : Bool) (s : State) (ch : ChanId) : (portState data s).chan ch = s.chan ch := by
  cases data
  · exact setCtl_chan s _ ch
  · rfl

/-- A statement about every WR0 command is one about the eight. -/
theorem forall_wr0Commands {ch : ChanId} {q : (State → State) → Prop} :
    (∀ c ∈ wr0Commands ch, q c) ↔ q commandNull ∧ q commandPointHigh ∧ q (commandResetExtStatus ch) ∧ q commandSendAbort ∧
      q (commandEnableIntNextRx ch) ∧ q (commandResetTxInt ch) ∧ q (commandErrorReset ch) ∧ q commandResetHighestIus := by
  simp [wr0Commands]

theorem wr0Commands_cfg (ch : ChanId) (s : State) : ∀ c ∈ wr0Commands ch, (c s).cfg = s.cfg := by
  refine forall_wr0Commands.mpr ⟨rfl, ?_, (commandResetExtStatus_channelOnly ch s).cfg, rfl, setChan_cfg s ch _,
    (commandResetTxInt_channelOnly ch s).cfg, (commandErrorReset_channelOnly ch s).cfg, ?_⟩
  · unfold commandPointHigh; split <;> rfl
  · unfold commandResetHighestIus resetHighestIus; split <;> rfl

/-- What an effect of a channel leaves alone: the parameters and the other channel. -/
theorem ChannelEffect.frame {ch : ChanId} {s t : State} (h : ChannelEffect ch s t) :
    t.cfg = s.cfg ∧ t.chan ch.other = s.chan ch.other := by
  have only : ∀ {t}, ChannelOnly ch s t → t.cfg = s.cfg ∧ t.chan ch.other = s.chan ch.other := fun h => ⟨h.cfg, h.other⟩
  cases h with
  | unchanged => exact ⟨rfl, rfl⟩
  | @command c hc v =>
    refine ⟨?_, (wr0Effects_frame ch hc v s).1⟩
    rw [wr0Effects, wr0CrcReset_eq, wr0Commands_cfg ch _ c hc]
    exact (wr0Pointer_frame v s).2.2.2.1
  | @write n h0 h9 v =>
    by_cases h2 : n = 2#4
    · subst h2; exact ⟨rfl, setCtl_chan s _ _⟩
    · exact only (regWrite_channelOnly h0 h2 h9 ch v s)
  | dataRead => exact only (dataRead_channelOnly ch s)
  | acknowledge i => exact ⟨rfl, setSlot_chan s i _ _⟩
  | txClockEdge => exact only (txClockEdge_channelOnly ch s)
  | rxClockEdge => exact only (rxClockEdge_channelOnly ch s)
  | ctsEvent l => exact only (ctsEvent_channelOnly ch l s)
  | dcdEvent l => exact only (dcdEvent_channelOnly ch l s)
  | rxdEvent | syncEvent | riEvent => exact only (setChan_channelOnly s ch _)

theorem Effect.cfg_eq {s t : State} (h : Effect s t) : t.cfg = s.cfg := by
  cases h with
  | channel h => exact h.frame.1
  | channelReset ch v => simp [Machine.channelReset, channelSlots, idleSlot, Machine.storeWr9]
  | storeWr9 | wr9HwReset | reset => rfl

theorem exec_cfg {i : Instr} {s t : State} (h : exec i s = .next t) : t.cfg = s.cfg := by
  obtain ⟨data, u, r, hu, rfl⟩ := exec_effect h
  exact hu.cfg_eq.trans (portState_cfg data s)

/-- Settles O9: every effect keeps the parameters, and a step is an effect or nothing. -/
theorem stepKeepsTheParameters : Obligations.StepKeepsTheParameters := by
  intro s t h
  obtain rfl | ⟨rest, i, h⟩ := step_next_cases h
  · rfl
  · exact exec_cfg (s := { s with pending := rest }) h

/-- An access through the bus, WR9 apart, leaves the other channel. -/
theorem BusOutcome.other_chan {s t : State} {a : RegAccess} {ch : ChanId} {n : BitVec 4}
    {o : Host.Outcome State Fault Refusal} (h : BusOutcome s (some a) o)
    (ha : (∃ v, a = .write ch n v ∧ n ≠ 9#4) ∨ a = .read ch n) (ho : o = .next t) :
    t.chan ch.other = s.chan ch.other := by
  cases h with
  | write data ch' n' v =>
    obtain ⟨v', e, h9⟩ | e := ha <;> cases e
    rw [done_next ho, respond_chan, (regWrite_channelEffect ch h9 v _).frame.2, portState_chan]
  | read data ch' n' =>
    obtain ⟨v', e, -⟩ | e := ha <;> cases e
    rw [answer_next ho, respond_chan, (regRead_channelEffect ch n _).frame.2, portState_chan]

theorem exec_named_other_chan {i : Instr} {s t : State} {ch : ChanId} (hi : namedChannel i = some ch)
    (h : exec i s = .next t) : t.chan ch.other = s.chan ch.other := by
  obtain ⟨u, r, hu, rfl⟩ := exec_channelEffect hi h
  rw [respond_chan, hu.frame.2]

theorem irqAcknowledge_chan (s : State) (ch : ChanId) : (irqAcknowledge s).2.chan ch = s.chan ch := by
  unfold irqAcknowledge
  split
  · rfl
  · exact setSlot_chan s _ _ ch

/-- Settles O56: a word that names a channel has an effect of that channel, and so has a bus word that reaches its registers. -/
theorem operationsOnOneChannelLeaveTheOther : Obligations.OperationsOnOneChannelLeaveTheOther := by
  refine ⟨fun i s t ch => exec_named_other_chan, fun i s t ch n ha h => ?_, fun i hi s => ?_⟩
  · obtain ⟨a, hs, ha⟩ : ∃ a, accessOf s i = some a ∧ ((∃ v, a = .write ch n v ∧ n ≠ 9#4) ∨ a = .read ch n) := by
      obtain ⟨v, e, h9⟩ | e := ha
      · exact ⟨_, e, .inl ⟨v, rfl, h9⟩⟩
      · exact ⟨_, e, .inr rfl⟩
    obtain hw | hb := accessOf_cases hs
    · obtain ⟨v, rfl, h9⟩ | rfl := ha
      · exact exec_named_other_chan (namedChannel_of_wordWrite hw h9) h
      · exact exec_named_other_chan (namedChannel_of_wordRead hw) h
    · exact hb.other_chan ha h
  · simp only [List.mem_cons, List.not_mem_nil, or_false] at hi
    obtain rfl | rfl | rfl := hi
    · exact ⟨_, rfl, rfl, rfl⟩
    · exact ⟨_, rfl, irqAcknowledge_chan s .a, irqAcknowledge_chan s .b⟩
    · exact ⟨_, rfl, rfl, rfl⟩

end Sys2Proof.Machine

/-! ## The invariant

`Inv` is kept by every effect. One rule for each way of changing the state (`setChan_inv`, `setCtl_inv`, `setSlot_inv`,
`setSlot_setIpBit_inv`), then one lemma for each change of a channel record that touches a clause of `ChannelInv`, then the
operations built from them. -/

namespace Sys2Proof.Machine

/-! ### The parts of the state -/

section Parts
variable {s : State}

theorem Inv.chan (h : Inv s) (ch : ChanId) : ChannelInv s.cfg ch (s.chan ch) := by
  cases ch
  · exact h.chanA
  · exact h.chanB

theorem setChan_inv (h : Inv s) {ch : ChanId} {c : Channel} (hc : ChannelInv s.cfg ch c) : Inv (s.setChan ch c) := by
  cases ch
  · exact { h with chanA := hc }
  · exact { h with chanB := hc }

/-- A change of the controller record that leaves the slots and RR3. -/
theorem setCtl_inv (h : Inv s) {k : Controller} (hs : k.slots = s.ctl.slots) (hb : k.ipBits = s.ctl.ipBits)
    (h9 : k.wr9 &&& 0xC0#8 = 0x00#8) (hp : s.cfg.bus = .zBus → k.ptr = 0#4) (hz : s.cfg.bus = .uBus → k.zshift = .left) :
    Inv (s.setCtl k) :=
  { h with
    wr9High := h9
    pointerUBus := hp
    shiftZBus := hz
    pendingShown := fun i => by
      have slot : (s.setCtl k).slot i = s.slot i := congrArg (fun t => t.get i) hs
      have bit : (s.setCtl k).ipBit i = s.ipBit i := congrArg (fun x => (x &&& i.mask) != 0#6) hb
      rw [slot, bit]
      exact h.pendingShown i }

/-- A slot that becomes pending must show in RR3 already. -/
theorem setSlot_inv (h : Inv s) {i : SlotId} {x : Slot} (hx : x.ip = true → s.ipBit i = true) : Inv (s.setSlot i x) :=
  { h with
    pendingShown := fun j => by
      by_cases e : j = i
      · subst e; simpa using hx
      · simpa [setSlot_slot_ne s i x e] using h.pendingShown j }

/-- A slot and its RR3 bit written together. -/
theorem setSlot_setIpBit_inv (h : Inv s) {i : SlotId} {x : Slot} {b : Bool} (hx : x.ip = true → b = true) :
    Inv ((s.setSlot i x).setIpBit i b) :=
  { h with
    pendingShown := fun j => by
      by_cases e : j = i
      · subst e; simpa using hx
      · simpa [setSlot_slot_ne s i x e, setIpBit_ipBit_ne _ i b e] using h.pendingShown j }

theorem respond_inv (h : Inv s) (r : Response) : Inv (s.respond r) := { h with }

theorem portState_inv (h : Inv s) (data : Bool) : Inv (portState data s) := by
  cases data
  · exact setCtl_inv h rfl rfl h.wr9High (fun _ => rfl) h.shiftZBus
  · exact h

theorem ite_inv {p : Prop} [Decidable p] {t u : State} (ht : Inv t) (hu : Inv u) : Inv (if p then t else u) := by
  split
  · exact ht
  · exact hu

/-! ### The arbiter -/

theorem trigger_inv (ch : ChanId) (t : IntType) (h : Inv s) : Inv (trigger ch t s) :=
  ite_inv (setSlot_setIpBit_inv h fun _ => rfl) h

theorem clear_inv (ch : ChanId) (c : Condition) (h : Inv s) : Inv (clear ch c s) := setSlot_setIpBit_inv h nofun

theorem idleSlot_inv (i : SlotId) (h : Inv s) : Inv (idleSlot i s) := setSlot_setIpBit_inv h nofun

theorem acknowledge_inv (i : SlotId) (h : Inv s) : Inv (acknowledge i s) := setSlot_inv h nofun

theorem resetHighestIus_inv (h : Inv s) : Inv (resetHighestIus s) := by
  unfold resetHighestIus
  split
  · exact setSlot_inv h (h.pendingShown _)
  · exact h

end Parts

/-! ### The rate of a channel -/

section Rates
variable {cfg : Config} {ch : ChanId} {c : Channel}

/-- The clauses of `ChannelInv` that do not speak of the pending rate: they survive a write of a register the rate is made of. -/
structure ChannelInvButRate (cfg : Config) (c : Channel) : Prop where
  rxFits : c.rxq.length ≤ nrx cfg
  lockedHead : c.rxLocked = true → c.rxq ≠ []
  txFits : c.txq.length ≤ ntx cfg
  noWr7p : cfg.isEscc = false → c.wr7p = 0x00#8
  txDivSmall : c.txDiv < 64
  rxDivSmall : c.rxDiv < 64
  tsrFits : c.tsr.length ≤ 12
  allSentEmpty : c.allSent = true → c.tsr = [] ∧ c.txq = []
  appliedPositive : c.rateApplied.positive = true
  underrunSet : c.txUnderrun = true
  residueFixed : c.residue = 0b011#3

theorem ChannelInv.butRate (h : ChannelInv cfg ch c) : ChannelInvButRate cfg c := { h with }

theorem mult_pos (wr4 : Byte) : 0 < mult wr4 := by unfold mult; split <;> decide
theorem mult_le (wr4 : Byte) : mult wr4 ≤ 64 := by unfold mult; split <;> decide

theorem rateOf_positive (hp : cfg.positive = true) (ch : ChanId) (c : Channel) : (rateOf cfg ch c).positive = true := by
  have prescale : 0 < cfg.brgPrescale := by simp [Config.positive] at hp; exact hp.2
  unfold rateOf
  split
  · have := mult_pos c.wr4
    simp only [Rate.positive, decide_eq_true_eq]
    positivity
  · rfl

/-- A rate update restores what the other clauses leave open (R341). -/
theorem rateUpdate_inv (hp : cfg.positive = true) (ch : ChanId) (h : ChannelInvButRate cfg c) :
    ChannelInv cfg ch (rateUpdate cfg ch c) := by
  unfold rateUpdate
  dsimp only
  split
  · exact { h with
      pendingCurrent := rfl, rateSettled := fun _ => rfl, delayedBusy := nofun
      appliedPositive := rateOf_positive hp ch c }
  · next busy =>
    exact { h with
      pendingCurrent := rfl, rateSettled := nofun, delayedBusy := fun _ e => busy (by simpa using e) }

/-- A WR14 write updates the rate whenever the write changes it (R224). -/
theorem wr14Rate_inv (hp : cfg.positive = true) (h : ChannelInv cfg ch c) (v : Byte) :
    ChannelInv cfg ch (wr14Rate cfg ch c.wr14 { c with wr14 := v }) := by
  have current := h.pendingCurrent
  unfold wr14Rate
  dsimp only
  split
  · next on =>
    split
    · exact rateUpdate_inv hp ch { h.butRate with }
    · next same =>
      simp only [Bool.or_eq_true, Bool.not_eq_true', bne_iff_ne, ne_eq, not_or, Bool.not_eq_false, not_not] at same
      exact { h with
        pendingCurrent := by simpa [rateOf, brgSourceHz, timeConstant, same.1, same.2, on] using current }
  · next off =>
    split
    · exact { h with
        pendingCurrent := by simp [rateOf, off], rateSettled := fun _ => rfl, delayedBusy := nofun
        appliedPositive := rfl }
    · next oldOff => exact { h with pendingCurrent := by simpa [rateOf, off, oldOff] using current }

/-! ### The transmitter of a channel -/

theorem wordLength_le (code : BitVec 2) : wordLength code ≤ 8 := by unfold wordLength; split <;> decide

/-- A start bit, at most eight data bits, a parity bit and two stop bits (R312). -/
theorem frame_length_le (wr4 wr5 b : Byte) : (frame wr4 wr5 b).length ≤ 12 := by
  have data : txBits wr5 ≤ 8 := wordLength_le _
  unfold frame
  split <;> split <;> simp [dataBits_length] <;> omega

/-- A character taken from the FIFO (R310): all-sent was clear, since the FIFO was not empty. -/
theorem loadCharacter_inv (h : ChannelInv cfg ch c) {b : Byte} {rest : List Byte} (hq : c.txq = b :: rest) :
    ChannelInv cfg ch { c with txq := rest, tsr := frame c.wr4 c.wr5 b } :=
  { h with
    txFits := Nat.le_of_succ_le (by simpa [hq] using h.txFits)
    tsrFits := frame_length_le _ _ _
    allSentEmpty := fun e => by simpa [hq] using (h.allSentEmpty e).2
    delayedBusy := fun _ e => nomatch e }

/-- The shift register runs empty (R311): all-sent was clear, and a deferred rate change is applied at once. -/
theorem applyDelayedRate_lastBit_inv (hp : cfg.positive = true) (h : ChannelInv cfg ch c) {b : Bool} (ht : c.tsr = [b]) :
    ChannelInv cfg ch (applyDelayedRate { c with txd := b, tsr := [] }) := by
  have busy : c.allSent ≠ true := fun e => by simpa [ht] using (h.allSentEmpty e).1
  unfold applyDelayedRate
  dsimp only
  split
  · exact { h with
      tsrFits := Nat.zero_le _, allSentEmpty := fun e => absurd e busy, rateSettled := fun _ => rfl
      delayedBusy := nofun
      appliedPositive := by rw [h.pendingCurrent]; exact rateOf_positive hp ch c }
  · next settled =>
    exact { h with
      tsrFits := Nat.zero_le _, allSentEmpty := fun e => absurd e busy, delayedBusy := fun e => absurd e settled }

theorem markAllSent_inv (h : ChannelInv cfg ch c) (ht : c.tsr = []) (hq : c.txq = []) :
    ChannelInv cfg ch (markAllSent c) := by
  unfold markAllSent
  split
  · exact { h with allSentEmpty := fun _ => ⟨ht, hq⟩ }
  · exact { h with allSentEmpty := fun _ => ⟨ht, hq⟩ }

theorem wr5Rts_inv (h : ChannelInv cfg ch c) (v : Byte) : ChannelInv cfg ch (wr5Rts v c) := by
  unfold wr5Rts
  split
  · exact { h with }
  · split <;> exact { h with }

theorem wr5Txd_inv (h : ChannelInv cfg ch c) (v : Byte) : ChannelInv cfg ch (wr5Txd v c) := by
  unfold wr5Txd
  split
  · exact { h with }
  · split <;> exact { h with }

/-! ### The receiver of a channel -/

theorem pushRx_ne_nil (cfg : Config) (q : List RxEntry) (d e : Byte) : pushRx cfg q d e ≠ [] := by
  unfold pushRx replaceLast; split <;> simp

theorem pushRx_inv (h : ChannelInv cfg ch c) (d e : Byte) :
    ChannelInv cfg ch { c with rxq := pushRx cfg c.rxq d e } :=
  { h with rxFits := pushRx_length cfg c.rxq d e h.rxFits, lockedHead := fun _ => pushRx_ne_nil cfg c.rxq d e }

theorem errorResetQueue_length_le (c : Channel) : (errorResetQueue c).length ≤ c.rxq.length := by
  unfold errorResetQueue; split <;> simp

/-! ### The resets of a channel -/

theorem resetChannelHidden_inv (hp : cfg.positive = true) (ch : ChanId) (hw : cfg.isEscc = false → c.wr7p = 0x00#8) :
    ChannelInv cfg ch (resetChannelHidden cfg ch c) where
  rxFits := Nat.zero_le _
  lockedHead e := nomatch e
  txFits := Nat.zero_le _
  noWr7p := hw
  txDivSmall := Nat.zero_lt_succ 63
  rxDivSmall := Nat.zero_lt_succ 63
  tsrFits := Nat.zero_le _
  allSentEmpty _ := ⟨rfl, rfl⟩
  pendingCurrent := rfl
  rateSettled _ := rfl
  delayedBusy e := nomatch e
  appliedPositive := rateOf_positive hp ch c
  underrunSet := rfl
  residueFixed := rfl

theorem resetCommonRegs_noWr7p (h : ChannelInv cfg ch c) (e : cfg.isEscc = false) :
    (resetCommonRegs cfg c).wr7p = 0x00#8 := by simpa [resetCommonRegs, e] using h.noWr7p e

theorem hardwareResetChannel_inv (hp : cfg.positive = true) (h : ChannelInv cfg ch c) :
    ChannelInv cfg ch (hardwareResetChannel cfg ch c) := resetChannelHidden_inv hp ch (resetCommonRegs_noWr7p h)

theorem channelResetChannel_inv (hp : cfg.positive = true) (h : ChannelInv cfg ch c) :
    ChannelInv cfg ch (channelResetChannel cfg ch c) := resetChannelHidden_inv hp ch (resetCommonRegs_noWr7p h)

end Rates

/-! ### The transmitter and the receiver -/

section Serial
variable {s : State} (ch : ChanId)

theorem txIntCheck_inv (full : Bool) (h : Inv s) : Inv (txIntCheck ch full s) := ite_inv (trigger_inv ch .tx h) h

theorem txKick_inv (h : Inv s) : Inv (txKick ch s) := by
  unfold txKick
  dsimp only
  split
  · exact h
  · next b rest hq => exact ite_inv (txIntCheck_inv ch _ (setChan_inv h (loadCharacter_inv (h.chan ch) hq))) h

/-- The end of a character, when the deferred rate change leaves the channel sound. -/
theorem transmitComplete_inv (h : Inv (s.setChan ch (applyDelayedRate (s.chan ch)))) : Inv (transmitComplete ch s) := by
  have kicked := txKick_inv ch h
  refine ite_inv ?_ h
  split
  · next idle =>
    rw [Bool.and_eq_true, List.isEmpty_iff, List.isEmpty_iff] at idle
    exact setChan_inv kicked (markAllSent_inv (kicked.chan ch) idle.1 idle.2)
  · exact kicked

theorem txBitStep_inv (h : Inv s) : Inv (txBitStep ch s) := by
  have hc := h.chan ch
  have level : ∀ l, Inv (s.setChan ch { s.chan ch with txd := l }) := fun l => setChan_inv h { hc with }
  refine ite_inv (level false) (ite_inv (level true) ?_)
  split
  · exact level true
  · next b ht =>
    exact transmitComplete_inv ch (by simpa using setChan_inv h (applyDelayedRate_lastBit_inv h.cfgPositive hc ht))
  · next b rest more ht =>
    exact setChan_inv h { hc with
      tsrFits := Nat.le_of_succ_le (by simpa [ht] using hc.tsrFits)
      allSentEmpty := fun e => by simpa [ht] using (hc.allSentEmpty e).1
      delayedBusy := fun _ => more }

theorem txClockEdge_inv (h : Inv s) : Inv (txClockEdge ch s) := by
  unfold txClockEdge
  dsimp only
  split
  · exact txBitStep_inv ch (setChan_inv h { h.chan ch with txDivSmall := Nat.zero_lt_succ 63 })
  · next more =>
    exact setChan_inv h { h.chan ch with txDivSmall := (Nat.lt_of_not_le more).trans_le (mult_le _) }

theorem receiveData_inv (d e : Byte) (h : Inv s) : Inv (receiveData ch d e s) := by
  have hc := pushRx_inv (h.chan ch) d e
  have pushed := setChan_inv h hc
  exact ite_inv (trigger_inv ch .rx pushed)
    (ite_inv (ite_inv (trigger_inv ch .rx (setChan_inv h { hc with })) pushed) pushed)

theorem rxBitStep_inv (h : Inv s) : Inv (rxBitStep ch s) := by
  have assembler : ∀ r, Inv (s.setChan ch { s.chan ch with rxs := r }) := fun r => setChan_inv h { h.chan ch with }
  refine ite_inv (assembler .idle) ?_
  split
  · exact ite_inv h (assembler _)
  · exact ite_inv (assembler _) (assembler _)
  · exact assembler _
  · exact receiveData_inv ch _ _ (assembler .idle)

theorem rxClockEdge_inv (h : Inv s) : Inv (rxClockEdge ch s) := by
  unfold rxClockEdge
  dsimp only
  split
  · exact rxBitStep_inv ch (setChan_inv h { h.chan ch with rxDivSmall := Nat.zero_lt_succ 63 })
  · next more =>
    exact setChan_inv h { h.chan ch with rxDivSmall := (Nat.lt_of_not_le more).trans_le (mult_le _) }

/-- A data read locks only a FIFO that has a head, and pops only one that is not locked (R300, R523). -/
theorem dataRead_inv (h : Inv s) : Inv (dataRead ch s).2 := by
  have hc := h.chan ch
  unfold dataRead
  dsimp only
  split
  · exact h
  · next e rest hq =>
    split
    · have locked : Inv (s.setChan ch { s.chan ch with errBits := e.err.extractLsb' 4 4, rxLocked := true }) :=
        setChan_inv h { hc with lockedHead := fun _ => by simp [hq] }
      exact ite_inv locked (trigger_inv ch .special locked)
    · next free =>
      rw [Bool.or_eq_true, not_or] at free
      have popped : Inv (s.setChan ch { s.chan ch with errBits := e.err.extractLsb' 4 4, rxq := rest }) :=
        setChan_inv h { hc with
          rxFits := Nat.le_of_succ_le (by simpa [hq] using hc.rxFits)
          lockedHead := fun locked => absurd locked free.1 }
      exact ite_inv (clear_inv ch .rx popped) popped

theorem dataWrite_inv (v : Byte) (h : Inv s) : Inv (dataWrite ch v s) := by
  unfold dataWrite
  dsimp only
  split
  · next room =>
    have pushed : ChannelInv s.cfg ch
        { s.chan ch with txq := (s.chan ch).txq ++ [v], allSent := false, txIntDisarmed := false } :=
      { h.chan ch with txFits := by simpa using Nat.succ_le_of_lt room, allSentEmpty := nofun }
    exact txKick_inv ch (clear_inv ch .tx (setChan_inv h pushed))
  · exact txKick_inv ch h

/-! ### The line events -/

theorem latchExternal_inv (h : Inv s) : Inv (latchExternal ch s) := by
  have latched : ∀ v, Inv (s.setChan ch { s.chan ch with extLatched := true, extSnap := v }) := fun v =>
    setChan_inv h { h.chan ch with }
  exact ite_inv h (ite_inv (trigger_inv ch .ext (latched _)) (latched _))

theorem ctsEvent_inv (l : Bool) (h : Inv s) : Inv (ctsEvent ch l s) := by
  have moved : Inv (s.setChan ch { s.chan ch with ctsPin := l }) := setChan_inv h { h.chan ch with }
  have latched := ite_inv (p := ((s.chan ch).wr15 &&& 0x20#8 != 0x00#8) = true) (latchExternal_inv ch moved) moved
  exact ite_inv moved (ite_inv latched (txKick_inv ch latched))

theorem dcdEvent_inv (l : Bool) (h : Inv s) : Inv (dcdEvent ch l s) := by
  have moved : Inv (s.setChan ch { s.chan ch with dcdPin := l }) := setChan_inv h { h.chan ch with }
  exact ite_inv moved (ite_inv (latchExternal_inv ch moved) moved)

end Serial

/-! ### The write registers -/

section Writes
variable {s : State} (ch : ChanId) (v : Byte)

/-- The pointer moves on the Universal-Bus alone (R209), the shift mode on the Z-Bus alone (R210). -/
theorem wr0Pointer_inv (h : Inv s) : Inv (wr0Pointer v s) := by
  unfold wr0Pointer
  split
  · next bus => exact setCtl_inv h rfl rfl h.wr9High (fun e => by simp [bus] at e) h.shiftZBus
  · next bus =>
    have shifted : ∀ m, Inv (s.setCtl { s.ctl with zshift := m }) := fun m =>
      setCtl_inv h rfl rfl h.wr9High h.pointerUBus (fun e => by simp [bus] at e)
    split
    · exact shifted .left
    · exact shifted .right
    · exact h

theorem commandPointHigh_inv (h : Inv s) : Inv (commandPointHigh s) := by
  unfold commandPointHigh
  split
  · next bus => exact setCtl_inv h rfl rfl h.wr9High (fun e => by simp [bus] at e) h.shiftZBus
  · exact h

theorem commandResetExtStatus_inv (h : Inv s) : Inv (commandResetExtStatus ch s) := by
  have cleared := clear_inv ch .ext h
  have latch : ∀ v l, Inv ((clear ch .ext s).setChan ch
      { (clear ch .ext s).chan ch with extSnap := v, extLatched := l }) := fun v l =>
    setChan_inv cleared { cleared.chan ch with }
  exact ite_inv (ite_inv (ite_inv (trigger_inv ch .ext (latch _ true)) (latch _ true)) (latch _ false)) cleared

theorem commandResetTxInt_inv (h : Inv s) : Inv (commandResetTxInt ch s) := by
  have cleared := clear_inv ch .tx h
  exact setChan_inv cleared { cleared.chan ch with }

theorem commandErrorReset_inv (h : Inv s) : Inv (commandErrorReset ch s) := by
  have freed : ChannelInv s.cfg ch
      { s.chan ch with errBits := 0#4, rxq := errorResetQueue (s.chan ch), rxLocked := false } :=
    { h.chan ch with rxFits := (errorResetQueue_length_le _).trans (h.chan ch).rxFits, lockedHead := nofun }
  have cleared := clear_inv ch .rx (setChan_inv h freed)
  exact ite_inv (trigger_inv ch .rx cleared) cleared

theorem wr0Commands_inv (h : Inv s) : ∀ c ∈ wr0Commands ch, Inv (c s) :=
  forall_wr0Commands.mpr ⟨h, commandPointHigh_inv h, commandResetExtStatus_inv ch h, h,
    setChan_inv h { h.chan ch with }, commandResetTxInt_inv ch h, commandErrorReset_inv ch h, resetHighestIus_inv h⟩

theorem wr0Effects_inv {c : State → State} (hc : c ∈ wr0Commands ch) (h : Inv s) : Inv (wr0Effects c v s) := by
  rw [wr0Effects, wr0CrcReset_eq]
  exact wr0Commands_inv ch (wr0Pointer_inv v h) c hc

theorem writeWr2_inv (h : Inv s) : Inv (writeWr2 v s) := setCtl_inv h rfl rfl h.wr9High h.pointerUBus h.shiftZBus

theorem writeWr3_inv (h : Inv s) : Inv (writeWr3 ch v s) := by
  refine setChan_inv h ?_
  have hunt : ChannelInv s.cfg ch
      (if enterHunt v then { s.chan ch with wr3 := v, syncHunt := true } else { s.chan ch with wr3 := v }) := by
    split <;> exact { h.chan ch with }
  split
  · exact hunt
  · exact { hunt with rxDivSmall := Nat.zero_lt_succ 63 }

/-- A WR4 write that changes the register empties the shift register, so the new rate is applied at once (R215). -/
theorem writeWr4_inv (h : Inv s) : Inv (writeWr4 ch v s) :=
  ite_inv h (setChan_inv h (rateUpdate_inv h.cfgPositive ch { (h.chan ch).butRate with
    txDivSmall := Nat.zero_lt_succ 63, rxDivSmall := Nat.zero_lt_succ 63, tsrFits := Nat.zero_le _
    allSentEmpty := fun e => ⟨rfl, ((h.chan ch).allSentEmpty e).2⟩ }))

theorem writeWr5_inv (h : Inv s) : Inv (writeWr5 ch v s) := by
  have stored : ChannelInv s.cfg ch { s.chan ch with wr5 := v } := { h.chan ch with }
  exact ite_inv h (txKick_inv ch (setChan_inv h (wr5Txd_inv (wr5Rts_inv stored v) v)))

theorem writeWr7_inv (h : Inv s) : Inv (writeWr7 ch v s) := by
  refine setChan_inv h ?_
  split
  · next prime => exact { h.chan ch with noWr7p := fun e => by simp [e] at prime }
  · exact { h.chan ch with }

theorem writeWr14_inv (h : Inv s) : Inv (writeWr14 ch v s) := by
  refine setChan_inv h ?_
  rw [dpllCommand_eq]
  exact wr14Rate_inv h.cfgPositive (h.chan ch) v

/-- The register writes other than WR0 and WR9. -/
theorem regWrite_inv {n : BitVec 4} (h0 : n ≠ 0#4) (h9 : n ≠ 9#4) (h : Inv s) : Inv (regWrite ch n v s) := by
  have hc := h.chan ch
  have rate : ∀ c, ChannelInvButRate s.cfg c → Inv (s.setChan ch (rateUpdate s.cfg ch c)) := fun c hc =>
    setChan_inv h (rateUpdate_inv h.cfgPositive ch hc)
  revert h0 h9
  induction n using forall_reg <;> intro h0 h9
  · exact absurd rfl h0
  · exact setChan_inv h { hc with }
  · exact writeWr2_inv v h
  · exact writeWr3_inv ch v h
  · exact writeWr4_inv ch v h
  · exact writeWr5_inv ch v h
  · exact setChan_inv h { hc with }
  · exact writeWr7_inv ch v h
  · exact dataWrite_inv ch v h
  · exact absurd rfl h9
  · exact setChan_inv h { hc with }
  · exact setChan_inv h { hc with }
  · exact rate _ { hc.butRate with }
  · exact rate _ { hc.butRate with }
  · exact writeWr14_inv ch v h
  · exact setChan_inv h { hc with }

/-! ### The resets -/

theorem or_and_byte (x y z : Byte) : (x ||| y) &&& z = (x &&& z) ||| (y &&& z) := by
  ext i
  simp [Bool.and_or_distrib_right]

/-- The bits a forced hardware reset takes from its byte lie below bit 6 (R216). -/
theorem wr9HwReset_high {w : Byte} (v : Byte) (h : w &&& 0xC0#8 = 0x00#8) :
    ((w &&& ~~~0x1C#8) ||| (v &&& 0x1C#8)) &&& 0xC0#8 = 0x00#8 := by
  simp [or_and_byte, BitVec.and_assoc, h]

theorem storeWr9_inv (h : Inv s) : Inv (storeWr9 v s) :=
  setCtl_inv h rfl rfl (by simp [BitVec.and_assoc]) h.pointerUBus h.shiftZBus

theorem channelReset_inv (h : Inv s) : Inv (channelReset ch s) :=
  idleSlot_inv _ (idleSlot_inv _ (idleSlot_inv _
    (setChan_inv h (channelResetChannel_inv h.cfgPositive (h.chan ch)))))

theorem hardwareReset_inv (preserveShift : Bool) (h : Inv s) : Inv (hardwareReset preserveShift s) where
  cfgPositive := h.cfgPositive
  wr9High := by simp [hardwareReset, BitVec.and_assoc]
  pendingShown i e := by cases i <;> cases e
  pointerUBus _ := rfl
  shiftZBus e := by
    cases preserveShift
    · rfl
    · exact h.shiftZBus e
  chanA := hardwareResetChannel_inv h.cfgPositive h.chanA
  chanB := hardwareResetChannel_inv h.cfgPositive h.chanB

theorem wr9HwReset_inv (h : Inv s) : Inv (wr9HwReset v s) := by
  have after := hardwareReset_inv true h
  exact setCtl_inv after rfl rfl (wr9HwReset_high v after.wr9High) after.pointerUBus after.shiftZBus

end Writes

/-! ### Every effect, every step -/

theorem ChannelEffect.inv {ch : ChanId} {s t : State} (h : ChannelEffect ch s t) (hs : Inv s) : Inv t := by
  cases h with
  | unchanged => exact hs
  | command hc v => exact wr0Effects_inv ch v hc hs
  | write h0 h9 v => exact regWrite_inv ch v h0 h9 hs
  | dataRead => exact dataRead_inv ch hs
  | acknowledge i => exact acknowledge_inv i hs
  | txClockEdge => exact txClockEdge_inv ch hs
  | rxClockEdge => exact rxClockEdge_inv ch hs
  | ctsEvent l => exact ctsEvent_inv ch l hs
  | dcdEvent l => exact dcdEvent_inv ch l hs
  | rxdEvent | syncEvent | riEvent => exact setChan_inv hs { hs.chan ch with }

theorem Effect.inv {s t : State} (h : Effect s t) (hs : Inv s) : Inv t := by
  cases h with
  | channel h => exact h.inv hs
  | storeWr9 v => exact storeWr9_inv v hs
  | channelReset ch v => exact channelReset_inv ch (storeWr9_inv v hs)
  | wr9HwReset v => exact wr9HwReset_inv v hs
  | reset => exact hardwareReset_inv false hs

theorem exec_inv {i : Instr} {s t : State} (hs : Inv s) (h : exec i s = .next t) : Inv t := by
  obtain ⟨data, u, r, hu, rfl⟩ := exec_effect h
  exact respond_inv (hu.inv (portState_inv hs data)) r

/-- Settles O7: every effect keeps the invariant, and a step is an effect or nothing. -/
theorem stepKeepsTheInvariant : Obligations.StepKeepsTheInvariant := by
  intro s t hs h
  obtain rfl | ⟨rest, i, h⟩ := step_next_cases h
  · exact hs
  · exact exec_inv (s := { s with pending := rest }) { hs with } h

end Sys2Proof.Machine

/-! ## The output pins -/

namespace Sys2Proof.Machine

theorem any_slot_eq_true {p : SlotId → Bool} : SlotId.all.any p = true ↔ ∃ i, p i = true := by
  have all : ∀ i, i ∈ SlotId.all := fun i => by cases i <;> decide
  simp [List.any_eq_true, all]

theorem anyInService_eq_false {s : State} : anyInService s = false ↔ ∀ i, (s.slot i).ius = false := by
  rw [← Bool.not_eq_true, anyInService, any_slot_eq_true]
  simp

/-- The IRQ output needs a pending slot and none in service (R46, R406). -/
theorem irqOutput_eq_true {s : State} :
    irqOutput s = true ↔ (∀ i, (s.slot i).ius = false) ∧ ∃ i, (s.slot i).ip = true := by
  rw [irqOutput, Bool.and_eq_true, Bool.not_eq_true', anyInService_eq_false, any_slot_eq_true]

/-- The DMA request needs its two enables, and a character waiting or room to send, as WR1.D5 selects (R352). -/
theorem wreqAsserted_eq_true {cfg : Config} {c : Channel} :
    wreqAsserted cfg c = true ↔ c.wr1.getLsbD 7 = true ∧ c.wr1.getLsbD 6 = true ∧
      (if c.wr1.getLsbD 5 then c.rxq ≠ [] else c.txq.length < ntx cfg) := by
  rw [wreqAsserted, Bool.and_eq_true, Bool.and_eq_true, and_assoc]
  refine and_congr_right fun _ => and_congr_right fun _ => ?_
  show (if c.wr1.getLsbD 5 then _ else _) = true ↔ _
  split
  · rw [decide_eq_true_iff, List.length_pos_iff]
  · rw [decide_eq_true_iff]

/-- Settles O38: TxD, /DTR and /RTS are read off the channel; /W//REQ and /INT, active low, by their conditions. -/
theorem outputPinsFollowTheState : Obligations.OutputPinsFollowTheState := by
  intro ch s
  have wreq : pinLevel s (.wreq ch) = false ↔ wreqAsserted s.cfg (s.chan ch) = true := iff_of_eq (Bool.not_eq_false' _)
  have int : pinLevel s .int = false ↔ irqOutput s = true := iff_of_eq (Bool.not_eq_false' _)
  exact ⟨rfl, rfl, rfl, wreq.trans wreqAsserted_eq_true, int.trans irqOutput_eq_true⟩

end Sys2Proof.Machine

/-! ## The step and the queue of issued words -/

namespace Sys2Proof.Machine

theorem decodeTableWord_eq_some {nbits w : Nat} {i : Instr} :
    decodeTableWord nbits w = some i ↔ decode (hostWordOf nbits w) = .ok i := by
  unfold decodeTableWord
  cases decode (hostWordOf nbits w) with
  | ok j => simp
  | error why => simp

theorem fetch_of_issued {s : State} {w : HostWord} {rest : List HostWord} (hq : s.pending = w :: rest) :
    fetch s = some (w, { s with pending := rest }) := by
  simp [fetch, hq]

theorem fetch_of_none_issued {s : State} (hq : s.pending = []) : fetch s = none := by
  simp [fetch, hq]

theorem step_of_issued {s : State} {w : HostWord} {rest : List HostWord} {i : Instr} (hq : s.pending = w :: rest)
    (hd : decode w = .ok i) : step s = exec i { s with pending := rest } := by
  simp [step, fetch_of_issued hq, hd]

theorem step_of_none_issued {s : State} (hq : s.pending = []) : step s = .next s := by
  simp [step, fetch_of_none_issued hq]

/-- The placed word is the oldest one issued, and taking it gives back the state it was placed on. -/
theorem step_withFetchWord {s : State} {nbits w : Nat} {i : Instr} (h : decodeTableWord nbits w = some i) :
    step (s.withFetchWord nbits w) = exec i s :=
  step_of_issued (s := s.withFetchWord nbits w) rfl (decodeTableWord_eq_some.mp h)

/-- Settles O5: the three cases are the fetch of an issued word, of a placed word and of none. -/
theorem stepRunsTheDecodedOperation : Obligations.StepRunsTheDecodedOperation :=
  ⟨fun _ _ _ _ hq hd => step_of_issued hq hd, fun _ _ _ _ h => step_withFetchWord h, fun _ hq => step_of_none_issued hq⟩

end Sys2Proof.Machine

/-! ## The round trips between decoder and encoder -/

namespace Sys2Proof

open Sys2Proof.Claims

/-! ### The decoder by the class of the word -/

section OpClasses
variable {w : BitVec 16} (hr : opReserved w = false)
include hr

theorem decode_of_class00 (hc : opClass w = 0b00#2) :
    decode (.op w) = .ok (decodeWrite (chanOfBit (opChan w)) (opIndex w) (opData w)) := by
  simp [decode, decodeOp, hr, hc]

theorem decode_of_class01 (hc : opClass w = 0b01#2) :
    decode (.op w) =
      if opData w = 0x00#8 then .ok (decodeRead (chanOfBit (opChan w)) (opIndex w)) else .error .readWithData := by
  simp [decode, decodeOp, hr, hc]

theorem decode_of_class10 (hc : opClass w = 0b10#2) :
    decode (.op w) = decodeEvent (chanOfBit (opChan w)) (opIndex w) (opData w) := by
  simp [decode, decodeOp, hr, hc]

theorem decode_of_class11 (hc : opClass w = 0b11#2) :
    decode (.op w) = decodeControl (opChan w) (opIndex w) (opData w) := by
  simp [decode, decodeOp, hr, hc]
end OpClasses

theorem decode_of_opReserved {w : BitVec 16} (hr : opReserved w = true) : decode (.op w) = .error .reservedBit13 := by
  simp [decode, decodeOp, hr]

section BusDirections
variable {w : BitVec 20} (hr : busReserved w = false)
include hr

theorem decode_of_busWrite (hd : busIsRead w = false) :
    decode (.bus w) = decodeBusWrite (busEntry w) (busOffset w) (busData w) := by
  simp [decode, decodeBus, hr, hd]

theorem decode_of_busRead (hd : busIsRead w = true) :
    decode (.bus w) =
      if busData w = 0x00#8 then decodeBusRead (busEntry w) (busOffset w) else .error .busReadWithData := by
  simp [decode, decodeBus, hr, hd]
end BusDirections

theorem decode_of_busReserved {w : BitVec 20} (hr : busReserved w = true) : decode (.bus w) = .error .reservedBit14 := by
  simp [decode, decodeBus, hr]

/-! ### The decoder on the words the encoder assembles -/

theorem decode_wrWord (ch : ChanId) (n : BitVec 4) (v : Byte) : decode (wrWord ch n v) = .ok (decodeWrite ch n v) := by
  rw [wrWord, opWord, decode_of_class00 (opReserved_assembled ..) (opClass_assembled ..), opChan_assembled,
    opIndex_assembled, opData_assembled, chanOfBit_bit]

theorem decode_rdWord (ch : ChanId) (n : BitVec 4) : decode (rdWord ch n) = .ok (decodeRead ch n) := by
  rw [rdWord, opWord, decode_of_class01 (opReserved_assembled ..) (opClass_assembled ..), opChan_assembled,
    opIndex_assembled, opData_assembled, chanOfBit_bit, if_pos rfl]

theorem decode_eventWord (ch : ChanId) (s : BitVec 4) (v : Byte) :
    decode (eventWord ch s v) = decodeEvent ch s v := by
  rw [eventWord, opWord, decode_of_class10 (opReserved_assembled ..) (opClass_assembled ..), opChan_assembled,
    opIndex_assembled, opData_assembled, chanOfBit_bit]

theorem decode_controlWord (k : BitVec 4) : decode (controlWord k) = decodeControl false k 0x00#8 := by
  rw [controlWord, opWord, decode_of_class11 (opReserved_assembled ..) (opClass_assembled ..), opChan_assembled,
    opIndex_assembled, opData_assembled]
  rfl

theorem decode_busWriteWord (e : BitVec 4) (o : BitVec 6) (v : Byte) :
    decode (busWriteWord e o v) = decodeBusWrite e o v := by
  rw [busWriteWord, busWord, decode_of_busWrite (busReserved_assembled ..) (busIsRead_assembled ..), busEntry_assembled,
    busOffset_assembled, busData_assembled]

theorem decode_busReadWord (e : BitVec 4) (o : BitVec 6) : decode (busReadWord e o) = decodeBusRead e o := by
  rw [busReadWord, busWord, decode_of_busRead (busReserved_assembled ..) (busIsRead_assembled ..), busEntry_assembled,
    busOffset_assembled, busData_assembled, if_pos rfl]

/-! ### The register words -/

theorem encode_of_wordWrite {i : Instr} {ch : ChanId} {n : BitVec 4} {v : Byte}
    (hi : wordAccess i = some (.write ch n v)) : encode i = wrWord ch n v := by
  cases i <;> cases hi <;> rfl

theorem encode_of_wordRead {i : Instr} {ch : ChanId} {n : BitVec 4} (hi : wordAccess i = some (.read ch n)) :
    encode i = rdWord ch n := by
  cases i <;> cases hi <;> rfl

/-- The sub-decodes of WR0, WR9 and WR14 find the row whose condition the byte meets (R110, R112, R113). -/
theorem decodeWrite_of_wordWrite {i : Instr} {ch : ChanId} {n : BitVec 4} {v : Byte} (hw : i.wellFormed = true)
    (hi : wordAccess i = some (.write ch n v)) : decodeWrite ch n v = i := by
  cases i <;> cases hi
  case wr0Null | wr0PointHigh | wr0ResetExtStatus | wr0SendAbort | wr0EnableIntNextRx | wr0ResetTxInt | wr0ErrorReset
    | wr0ResetHighestIus => exact show decodeWr0 ch v = _ by rw [decodeWr0, beq_iff_eq.mp hw]; rfl
  case wr9NoReset | wr9ResetB | wr9ResetA | wr9HwReset =>
    exact show decodeWr9 ch v = _ by rw [decodeWr9, beq_iff_eq.mp hw]; rfl
  case wr14DpllNull | wr14DpllEnterSearch | wr14DpllResetMissingClock | wr14DpllDisable | wr14DpllSourceBrg
    | wr14DpllSourceRtxc | wr14DpllFmMode | wr14DpllNrziMode =>
    exact show decodeWr14 ch v = _ by rw [decodeWr14, beq_iff_eq.mp hw]; rfl
  all_goals rfl

theorem decodeRead_of_wordRead {i : Instr} {ch : ChanId} {n : BitVec 4} (hi : wordAccess i = some (.read ch n)) :
    decodeRead ch n = i := by
  cases i <;> cases hi <;> rfl

theorem wordAccess_decodeWr0 (ch : ChanId) (v : Byte) : wordAccess (decodeWr0 ch v) = some (.write ch 0#4 v) := by
  unfold decodeWr0; split <;> rfl
theorem wordAccess_decodeWr9 (ch : ChanId) (v : Byte) : wordAccess (decodeWr9 ch v) = some (.write ch 9#4 v) := by
  unfold decodeWr9; split <;> rfl
theorem wordAccess_decodeWr14 (ch : ChanId) (v : Byte) : wordAccess (decodeWr14 ch v) = some (.write ch 14#4 v) := by
  unfold decodeWr14; split <;> rfl

theorem wordAccess_decodeWrite (ch : ChanId) (n : BitVec 4) (v : Byte) :
    wordAccess (decodeWrite ch n v) = some (.write ch n v) := by
  induction n using Machine.forall_reg
  case h0 => exact wordAccess_decodeWr0 ch v
  case h9 => exact wordAccess_decodeWr9 ch v
  case h14 => exact wordAccess_decodeWr14 ch v
  all_goals rfl

theorem wordAccess_decodeRead (ch : ChanId) (n : BitVec 4) : wordAccess (decodeRead ch n) = some (.read ch n) := by
  induction n using Machine.forall_reg <;> rfl

/-! Each row of a sub-decode stands at the code its condition asks for (R110, R112, R113). -/

theorem decodeWr0_wellFormed (ch : ChanId) (v : Byte) : (decodeWr0 ch v).wellFormed = true := by
  obtain ⟨⟨code⟩, hc⟩ : ∃ code, wr0CommandCode v = code := ⟨_, rfl⟩
  rw [decodeWr0, hc]
  fin_cases code <;> exact beq_iff_eq.mpr hc

theorem decodeWr9_wellFormed (ch : ChanId) (v : Byte) : (decodeWr9 ch v).wellFormed = true := by
  obtain ⟨⟨code⟩, hc⟩ : ∃ code, wr9ResetCode v = code := ⟨_, rfl⟩
  rw [decodeWr9, hc]
  fin_cases code <;> exact beq_iff_eq.mpr hc

theorem decodeWr14_wellFormed (ch : ChanId) (v : Byte) : (decodeWr14 ch v).wellFormed = true := by
  obtain ⟨⟨code⟩, hc⟩ : ∃ code, wr14DpllCode v = code := ⟨_, rfl⟩
  rw [decodeWr14, hc]
  fin_cases code <;> exact beq_iff_eq.mpr hc

theorem decodeWrite_wellFormed (ch : ChanId) (n : BitVec 4) (v : Byte) : (decodeWrite ch n v).wellFormed = true := by
  induction n using Machine.forall_reg
  case h0 => exact decodeWr0_wellFormed ch v
  case h9 => exact decodeWr9_wellFormed ch v
  case h14 => exact decodeWr14_wellFormed ch v
  all_goals rfl

theorem decodeRead_wellFormed (ch : ChanId) (n : BitVec 4) : (decodeRead ch n).wellFormed = true := by
  induction n using Machine.forall_reg <;> rfl

/-! ### The round trips -/

/-- Settles O1: a register word by the access it names, an event word by its level, any other by its row. -/
theorem decodeOfEncodeIsTheInstruction : Obligations.DecodeOfEncodeIsTheInstruction := by
  intro i hw
  have write : ∀ {ch n v}, wordAccess i = some (.write ch n v) → decode (encode i) = .ok i := fun hi => by
    rw [encode_of_wordWrite hi, decode_wrWord, decodeWrite_of_wordWrite hw hi]
  have read : ∀ {ch n}, wordAccess i = some (.read ch n) → decode (encode i) = .ok i := fun hi => by
    rw [encode_of_wordRead hi, decode_rdWord, decodeRead_of_wordRead hi]
  cases i
  case txc | rxc => exact decode_eventWord ..
  case rxd l | cts l | dcd l | sync l | ri l => cases l <;> exact decode_eventWord ..
  case irqState | irqAck | reti | reset => exact decode_controlWord _
  case busZbusW | busCdAbW | busCdBaW | busBaCdW | busBaCdInvW | busCaW | busCbW | busDaW | busDbW =>
    exact decode_busWriteWord ..
  case busZbusR | busCdAbR | busCdBaR | busBaCdR | busBaCdInvR | busCaR | busCbR | busDaR | busDbR =>
    exact decode_busReadWord ..
  case rr0 | rr1 | rr2 | rr3 | rr4 | rr5 | rr6 | rr7 | rr8 | rr9 | rr10 | rr11 | rr12 | rr13 | rr14 | rr15 => exact read rfl
  all_goals exact write rfl

end Sys2Proof

/-! ## Which words decode, and to what -/

namespace Sys2Proof

/-- What the decoder may answer on the word `w`: a refusal when the word is invalid, and otherwise a well-formed operation that
spells exactly `w`. -/
inductive DecodeAnswer (w : HostWord) (invalid : Prop) : Except InvalidWord Instr → Prop
  | refused (h : invalid) (why : InvalidWord) : DecodeAnswer w invalid (.error why)
  | spelled (h : ¬ invalid) {i : Instr} (hw : i.wellFormed = true) (he : encode i = w) : DecodeAnswer w invalid (.ok i)

theorem DecodeAnswer.of_iff {w : HostWord} {p q : Prop} {r : Except InvalidWord Instr} (h : DecodeAnswer w p r) (e : p ↔ q) :
    DecodeAnswer w q r := propext e ▸ h

theorem DecodeAnswer.error_iff {w : HostWord} {invalid : Prop} {r : Except InvalidWord Instr}
    (h : DecodeAnswer w invalid r) : invalid ↔ ∃ why, r = .error why := by
  cases h with
  | refused h why => exact ⟨fun _ => ⟨why, rfl⟩, fun _ => h⟩
  | spelled h hw he => exact ⟨fun k => absurd k h, nofun⟩

theorem DecodeAnswer.of_ok {w : HostWord} {invalid : Prop} {i : Instr} (h : DecodeAnswer w invalid (.ok i)) :
    i.wellFormed = true ∧ encode i = w := by
  cases h with
  | spelled _ hw he => exact ⟨hw, he⟩

/-! ### The event and controller words -/

theorem levelBit_getLsbD {v : Byte} (h : v.extractLsb' 1 7 = 0#7) : levelBit (v.getLsbD 0) = v := by
  revert v; decide

theorem decodeEvent_answer (ch : ChanId) (s : BitVec 4) (v : Byte) :
    DecodeAnswer (eventWord ch s v)
      (7 ≤ s.toNat ∨ v.extractLsb' 1 7 ≠ 0#7 ∨ (s.toNat ≤ 1 ∧ v.getLsbD 0 = true)) (decodeEvent ch s v) := by
  by_cases hv : v.extractLsb' 1 7 = 0#7
  · obtain ⟨l, rfl⟩ : ∃ l, v = levelBit l := ⟨_, (levelBit_getLsbD hv).symm⟩
    induction s using Machine.forall_reg
    case h0 | h1 =>
      cases l
      · exact .spelled (by decide) rfl rfl
      · exact .refused (by decide) _
    case h2 | h3 | h4 | h5 | h6 => cases l <;> exact .spelled (by decide) rfl rfl
    all_goals exact .refused (.inl (by decide)) _
  · unfold decodeEvent
    rw [if_pos (bne_iff_ne.mpr hv)]
    split <;> exact .refused (.inr (.inl hv)) _

theorem decodeControl_answer (chBit : Bool) (k : BitVec 4) (v : Byte) :
    DecodeAnswer (opWord 0b11#2 (BitVec.ofBool chBit) k v) (chBit = true ∨ v ≠ 0x00#8 ∨ 4 ≤ k.toNat)
      (decodeControl chBit k v) := by
  unfold decodeControl
  split
  · next h => exact .refused (.inl h) _
  next hc =>
  obtain rfl := Bool.eq_false_of_not_eq_true hc
  split
  · next h => exact .refused (.inr (.inl (by simpa using h))) _
  next hv =>
  obtain rfl : v = 0x00#8 := by simpa using hv
  induction k using Machine.forall_reg
  case h0 | h1 | h2 | h3 => exact .spelled (by decide) rfl rfl
  all_goals exact .refused (by decide) _

/-! ### The bus words -/

theorem decodeBusWrite_answer (e : BitVec 4) (o : BitVec 6) (v : Byte) :
    DecodeAnswer (busWriteWord e o v) (9 ≤ e.toNat) (decodeBusWrite e o v) := by
  induction e using Machine.forall_reg
  case h0 | h1 | h2 | h3 | h4 | h5 | h6 | h7 | h8 => exact .spelled (by decide) rfl rfl
  all_goals exact .refused (by decide) _

theorem decodeBusRead_answer (e : BitVec 4) (o : BitVec 6) :
    DecodeAnswer (busReadWord e o) (9 ≤ e.toNat) (decodeBusRead e o) := by
  induction e using Machine.forall_reg
  case h0 | h1 | h2 | h3 | h4 | h5 | h6 | h7 | h8 => exact .spelled (by decide) rfl rfl
  all_goals exact .refused (by decide) _

/-! ### The two word forms -/

theorem bitVec2_cases (c : BitVec 2) : c = 0b00#2 ∨ c = 0b01#2 ∨ c = 0b10#2 ∨ c = 0b11#2 := by
  revert c; decide

/-- The operation words of R104's list. -/
def InvalidOp (w : BitVec 16) : Prop :=
  opReserved w = true ∨
  (opClass w = 0b01#2 ∧ opData w ≠ 0x00#8) ∨
  (opClass w = 0b10#2 ∧
    (7 ≤ (opIndex w).toNat ∨ (opData w).extractLsb' 1 7 ≠ 0#7 ∨ ((opIndex w).toNat ≤ 1 ∧ (opData w).getLsbD 0 = true))) ∨
  (opClass w = 0b11#2 ∧ (opChan w = true ∨ opData w ≠ 0x00#8 ∨ 4 ≤ (opIndex w).toNat))

/-- The bus words of R104's list. -/
def InvalidBus (w : BitVec 20) : Prop :=
  9 ≤ (busEntry w).toNat ∨ busReserved w = true ∨ (busIsRead w = true ∧ busData w ≠ 0x00#8)

theorem decode_op_answer (w : BitVec 16) : DecodeAnswer (.op w) (InvalidOp w) (decode (.op w)) := by
  cases hr : opReserved w
  case true => rw [decode_of_opReserved hr]; exact .refused (.inl hr) _
  have fields : opWord (opClass w) (chanOfBit (opChan w)).bit (opIndex w) (opData w) = .op w := by
    rw [bit_chanOfBit]; exact congrArg HostWord.op (opWord_of_fields w hr)
  obtain hc | hc | hc | hc := bitVec2_cases (opClass w) <;> rw [hc] at fields
  · rw [decode_of_class00 hr hc]
    refine .spelled (by simp [InvalidOp, hr, hc]) (decodeWrite_wellFormed ..) ?_
    rwa [encode_of_wordWrite (wordAccess_decodeWrite ..)]
  · rw [decode_of_class01 hr hc]
    split
    · next hd =>
      refine .spelled (by simp [InvalidOp, hr, hc, hd]) (decodeRead_wellFormed ..) ?_
      rwa [encode_of_wordRead (wordAccess_decodeRead ..), rdWord, ← hd]
    · next hd => exact .refused (.inr (.inl ⟨hc, hd⟩)) _
  · rw [decode_of_class10 hr hc, ← fields]
    exact (decodeEvent_answer ..).of_iff (by simp [InvalidOp, hr, hc])
  · rw [decode_of_class11 hr hc, ← fields, bit_chanOfBit]
    exact (decodeControl_answer ..).of_iff (by simp [InvalidOp, hr, hc])

theorem decode_bus_answer (w : BitVec 20) : DecodeAnswer (.bus w) (InvalidBus w) (decode (.bus w)) := by
  cases hr : busReserved w
  case true => rw [decode_of_busReserved hr]; exact .refused (.inr (.inl hr)) _
  have fields : busWord (busEntry w) (BitVec.ofBool (busIsRead w)) (busOffset w) (busData w) = .bus w :=
    congrArg HostWord.bus (busWord_of_fields w hr)
  cases hd : busIsRead w <;> rw [hd] at fields
  · rw [decode_of_busWrite hr hd, ← fields]
    exact (decodeBusWrite_answer ..).of_iff (by simp [InvalidBus, hr, hd])
  · rw [decode_of_busRead hr hd]
    split
    · next hv =>
      rw [← fields, hv]
      exact (decodeBusRead_answer ..).of_iff (by simp [InvalidBus, hr, hd, hv])
    · next hv => exact .refused (.inr (.inr ⟨hd, hv⟩)) _

/-! ### The statements about raw words -/

/-- Settles O2: whatever is not refused spells its word. -/
theorem encodeOfDecodeIsTheWord : Obligations.EncodeOfDecodeIsTheWord := by
  intro w i h
  cases w with
  | op w => exact (h ▸ decode_op_answer w).of_ok
  | bus w => exact (h ▸ decode_bus_answer w).of_ok

theorem opData_extract (w : BitVec 16) : (opData w).extractLsb' 1 7 = w.extractLsb' 1 7 := by
  ext i hi; simp [opData]

theorem opData_getLsbD (w : BitVec 16) : (opData w).getLsbD 0 = w.getLsbD 0 := by
  simp [opData]

theorem step_of_invalid {s : Machine.State} {w : HostWord} {rest : List HostWord} {why : InvalidWord}
    (hq : s.pending = w :: rest) (hd : decode w = .error why) : Machine.step s = .refused (.invalidWord why) := by
  simp [Machine.step, Machine.fetch_of_issued hq, hd]

/-- Settles O3: the two lists are those of the answers, and an answer is one refusal or one operation. -/
theorem invalidWordsAreExactlyTheListedOnes : Obligations.InvalidWordsAreExactlyTheListedOnes := by
  refine ⟨fun w => ?_, fun w => (decode_bus_answer w).error_iff, fun w => ?_, fun _ _ _ _ hq hd => step_of_invalid hq hd⟩
  · have h := (decode_op_answer w).error_iff
    rwa [InvalidOp, opData_extract, opData_getLsbD] at h
  · cases decode w with
    | error why => exact .inl ⟨why, rfl⟩
    | ok i => exact .inr ⟨i, rfl, fun _ h => (Except.ok.inj h).symm⟩

/-- Settles O4: each word is the one its operation encodes to (R100, R101), so it decodes to it. -/
theorem writtenOutWordsDecode : Obligations.WrittenOutWordsDecode := by
  have spells : ∀ {i : Instr} {w : HostWord}, i.wellFormed = true → encode i = w → decode w = .ok i := fun hi hw =>
    hw ▸ decodeOfEncodeIsTheInstruction _ hi
  exact ⟨spells rfl rfl, spells rfl rfl, spells rfl rfl, spells rfl rfl, spells rfl rfl, spells rfl rfl, spells rfl rfl,
    spells rfl rfl, spells rfl rfl, spells rfl rfl, spells rfl rfl, spells rfl rfl⟩

end Sys2Proof

/-! ## No operation reads the response

What the last operation returned is the model's own field (log entry 5): a register write or read of a state with another response
leaves the same state with that response. -/

namespace Sys2Proof.Machine

/-- A read's byte, with the response of the state it leaves replaced. -/
def respondAfter (p : Byte × State) (r : Response) : Byte × State := (p.1, p.2.respond r)

section Respond
variable (s : State) (r : Response) (ch : ChanId)

@[simp] theorem respond_setChan (c : Channel) : (s.respond r).setChan ch c = (s.setChan ch c).respond r := by
  cases ch <;> rfl
@[simp] theorem respond_setCtl (k : Controller) : (s.respond r).setCtl k = (s.setCtl k).respond r := rfl
@[simp] theorem respond_setSlot (i : SlotId) (x : Slot) : (s.respond r).setSlot i x = (s.setSlot i x).respond r := rfl
@[simp] theorem respond_setIpBit (i : SlotId) (b : Bool) : (s.respond r).setIpBit i b = (s.setIpBit i b).respond r := rfl

theorem ite_respond (p : Prop) [Decidable p] (t u : State) :
    (if p then t.respond r else u.respond r) = (if p then t else u).respond r := (apply_ite (State.respond · r) p t u).symm

@[simp] theorem trigger_respond (t : IntType) : trigger ch t (s.respond r) = (trigger ch t s).respond r := by
  cases h : mie s.ctl.wr9
  · rw [trigger_of_mie_clear h, trigger_of_mie_clear (s := s.respond r) h]
  · simp only [trigger, respond_ctl, h, if_true]; rfl
@[simp] theorem clear_respond (c : Condition) : clear ch c (s.respond r) = (clear ch c s).respond r := rfl
@[simp] theorem acknowledge_respond (i : SlotId) : acknowledge i (s.respond r) = (acknowledge i s).respond r := rfl
@[simp] theorem txIntCheck_respond (full : Bool) : txIntCheck ch full (s.respond r) = (txIntCheck ch full s).respond r := by
  simp only [txIntCheck, respond_chan, respond_cfg, trigger_respond, ite_respond]
@[simp] theorem resetHighestIus_respond : resetHighestIus (s.respond r) = (resetHighestIus s).respond r := by
  have h : firstInService (s.respond r) = firstInService s := rfl
  unfold resetHighestIus
  rw [h]
  cases firstInService s <;> rfl

@[simp] theorem txKick_respond : txKick ch (s.respond r) = (txKick ch s).respond r := by
  simp only [txKick, respond_chan, respond_cfg, respond_setChan, txIntCheck_respond, ite_respond]
  split <;> rfl
@[simp] theorem dataWrite_respond (v : Byte) : dataWrite ch v (s.respond r) = (dataWrite ch v s).respond r := by
  simp only [dataWrite, respond_chan, respond_cfg, respond_setChan, clear_respond, txKick_respond, ite_respond]
@[simp] theorem dataRead_respond : dataRead ch (s.respond r) = respondAfter (dataRead ch s) r := by
  simp only [dataRead, respond_chan, respond_setChan, clear_respond, trigger_respond, ite_respond]
  split
  · rfl
  · split <;> rfl

/-! ### The register writes -/

@[simp] theorem wr0Pointer_respond (v : Byte) : wr0Pointer v (s.respond r) = (wr0Pointer v s).respond r := by
  simp only [wr0Pointer, respond_cfg, respond_ctl, respond_setCtl]
  split
  · rfl
  · split <;> rfl
@[simp] theorem commandPointHigh_respond : commandPointHigh (s.respond r) = (commandPointHigh s).respond r := by
  simp only [commandPointHigh, respond_cfg, respond_ctl, respond_setCtl]
  split <;> rfl
@[simp] theorem commandResetExtStatus_respond :
    commandResetExtStatus ch (s.respond r) = (commandResetExtStatus ch s).respond r := by
  simp only [commandResetExtStatus, clear_respond, respond_chan, respond_cfg, respond_setChan, trigger_respond, ite_respond]
@[simp] theorem commandResetTxInt_respond : commandResetTxInt ch (s.respond r) = (commandResetTxInt ch s).respond r := by
  simp only [commandResetTxInt, clear_respond, respond_chan, respond_setChan]
@[simp] theorem commandErrorReset_respond : commandErrorReset ch (s.respond r) = (commandErrorReset ch s).respond r := by
  simp only [commandErrorReset, clear_respond, respond_chan, respond_setChan, trigger_respond, ite_respond]

@[simp] theorem wr0Command_respond (code : BitVec 3) :
    wr0Command ch code (s.respond r) = (wr0Command ch code s).respond r := by
  unfold wr0Command
  split
  · rfl
  · exact commandPointHigh_respond s r
  · exact commandResetExtStatus_respond s r ch
  · rfl
  · exact respond_setChan s r ch _
  · exact commandResetTxInt_respond s r ch
  · exact commandErrorReset_respond s r ch
  · exact resetHighestIus_respond s r

@[simp] theorem writeWr0_respond (v : Byte) : writeWr0 ch v (s.respond r) = (writeWr0 ch v s).respond r := by
  simp only [writeWr0, wr0Effects, wr0CrcReset_eq, wr0Pointer_respond, wr0Command_respond]
@[simp] theorem writeWr4_respond (v : Byte) : writeWr4 ch v (s.respond r) = (writeWr4 ch v s).respond r := by
  simp only [writeWr4, respond_chan, respond_cfg, respond_setChan, ite_respond]
@[simp] theorem writeWr5_respond (v : Byte) : writeWr5 ch v (s.respond r) = (writeWr5 ch v s).respond r := by
  simp only [writeWr5, respond_chan, respond_setChan, txKick_respond, ite_respond]
@[simp] theorem channelReset_respond : channelReset ch (s.respond r) = (channelReset ch s).respond r := by
  cases ch <;> rfl
@[simp] theorem writeWr9_respond (v : Byte) : writeWr9 v (s.respond r) = (writeWr9 v s).respond r := by
  unfold writeWr9
  split
  · rfl
  · exact channelReset_respond (storeWr9 v s) r .b
  · exact channelReset_respond (storeWr9 v s) r .a
  · rfl

/-- A register write commutes with the record of a response. -/
theorem regWrite_respond (n : BitVec 4) (v : Byte) : regWrite ch n v (s.respond r) = (regWrite ch n v s).respond r := by
  induction n using forall_reg
  case h0 => exact writeWr0_respond s r ch v
  case h2 => rfl
  case h4 => exact writeWr4_respond s r ch v
  case h5 => exact writeWr5_respond s r ch v
  case h8 => exact dataWrite_respond s r ch v
  case h9 => exact writeWr9_respond s r v
  all_goals exact respond_setChan s r ch _

/-! ### The register reads -/

@[simp] theorem readRr2_respond : readRr2 ch (s.respond r) = respondAfter (readRr2 ch s) r := by
  cases ch with
  | a => rfl
  | b =>
    have h : firstPending (s.respond r) = firstPending s := rfl
    unfold readRr2
    rw [h]
    cases firstPending s with
    | none => rfl
    | some i =>
      have ack := ite_respond r (s.cfg.isEscc && softIack s.ctl.wr9) (acknowledge i s) s
      exact congrArg (Prod.mk (slotVector s i)) ack

theorem readTarget_respond (t : ReadTarget) : readTarget ch t (s.respond r) = respondAfter (readTarget ch t s) r := by
  cases t
  case rr2 => exact readRr2_respond s r ch
  case rr3 => cases ch <;> rfl
  case rr8 => exact dataRead_respond s r ch
  all_goals rfl

/-- A register read gives the same byte under every response, and leaves the same state with that response. -/
theorem regRead_respond (n : BitVec 4) : regRead ch n (s.respond r) = respondAfter (regRead ch n s) r := by
  have h : isExtended ch (s.respond r) = isExtended ch s := by rw [isExtended, respond_cfg, respond_chan, isExtended]
  rw [regRead, h, readTarget_respond, regRead]

end Respond

end Sys2Proof.Machine

/-! ## The two-access forms -/

namespace Sys2Proof.Machine

open Sys2Proof.Claims

theorem uBusPort_controlPortWrite (ch : ChanId) (v : Byte) : uBusPort (controlPortWrite ch v) = some (false, ch, some v) := by
  cases ch <;> rfl
theorem uBusPort_controlPortRead (ch : ChanId) : uBusPort (controlPortRead ch) = some (false, ch, none) := by
  cases ch <;> rfl

/-- The state with the register pointer at `n` (R42). -/
def pointAt (n : BitVec 4) (s : State) : State := s.setCtl { s.ctl with ptr := n }

theorem pointAt_pointAt_respond (n m : BitVec 4) (s : State) (r : Response) :
    pointAt n ((pointAt m s).respond r) = (pointAt n s).respond r := rfl
theorem pointAt_of_ptr {n : BitVec 4} {s : State} (h : s.ctl.ptr = n) : pointAt n s = s := by
  rw [← h]; rfl

/-- Up to register 7 the byte is a null command with the register in its pointer bits (R115, R110). -/
theorem pointerByte_low {n : BitVec 4} : n.toNat ≤ 7 →
    wr0CommandCode (pointerByte n) = 0b000#3 ∧ (wr0PointerBits (pointerByte n)).setWidth 4 = n := by
  revert n; decide

/-- Above, it is the point-high command with the register's low bits (R115, R110). -/
theorem pointerByte_high {n : BitVec 4} : ¬ n.toNat ≤ 7 →
    wr0CommandCode (pointerByte n) = 0b001#3 ∧ (wr0PointerBits (pointerByte n)).setWidth 4 ||| 8#4 = n := by
  revert n; decide

section UniversalBus
variable {s : State} (hb : s.cfg.bus = .uBus) (ch : ChanId)
include hb

/-- A control write is the write of the register the pointer names, from the state with the pointer at 0 (R152). -/
theorem exec_controlPortWrite (v : Byte) :
    exec (controlPortWrite ch v) s = completes (regWrite ch s.ctl.ptr v (pointAt 0#4 s)) := by
  rw [exec_of_portWrite (uBusPort_controlPortWrite ch v), uBusWrite_portTarget, isZBus_eq_decide, hb]
  rfl

/-- A control read is the read of the register the pointer names, from the state with the pointer at 0 (R152). -/
theorem exec_controlPortRead :
    exec (controlPortRead ch) s =
      returns (regRead ch s.ctl.ptr (pointAt 0#4 s)).1 (regRead ch s.ctl.ptr (pointAt 0#4 s)).2 := by
  rw [exec_of_portRead (uBusPort_controlPortRead ch), uBusRead_portTarget, isZBus_eq_decide, hb]
  rfl

theorem wr0Pointer_of_uBus (v : Byte) : wr0Pointer v s = pointAt ((wr0PointerBits v).setWidth 4) s := by
  rw [wr0Pointer, hb]; rfl

theorem commandPointHigh_of_uBus : commandPointHigh s = pointAt (s.ctl.ptr ||| 8#4) s := by
  rw [commandPointHigh, hb]; rfl

/-- The byte of R115 sets the pointer to the register it stands for: by its low bits (R209), and above 7 by the point-high
command after them (R201). -/
theorem writeWr0_pointerByte (n : BitVec 4) : writeWr0 ch (pointerByte n) s = pointAt n s := by
  rw [writeWr0, wr0Effects, wr0CrcReset_eq, wr0Pointer_of_uBus hb]
  by_cases hn : n.toNat ≤ 7
  · obtain ⟨hc, hp⟩ := pointerByte_low hn
    rw [hc, hp]
    rfl
  · obtain ⟨hc, hp⟩ := pointerByte_high hn
    rw [hc]
    show commandPointHigh _ = _
    rw [commandPointHigh_of_uBus (by exact hb)]
    exact congrArg (pointAt · s) hp

/-- With the pointer at 0, the first access of the two-access forms sets it (R115, R121). -/
theorem exec_pointer (hp : s.ctl.ptr = 0#4) (n : BitVec 4) :
    exec (controlPortWrite ch (pointerByte n)) s = .next ((pointAt n s).respond .nothing) := by
  rw [exec_controlPortWrite hb, hp, pointAt_of_ptr hp]
  exact congrArg completes (writeWr0_pointerByte hb ch n)

/-- The second access of a write writes the register the pointer names, from the state with the pointer back at 0 (R152). -/
theorem exec_write_pointed (hp : s.ctl.ptr = 0#4) (n : BitVec 4) (v : Byte) :
    exec (controlPortWrite ch v) ((pointAt n s).respond .nothing) = completes (regWrite ch n v s) := by
  rw [exec_controlPortWrite (by exact hb), pointAt_pointAt_respond, pointAt_of_ptr hp, regWrite_respond]
  rfl

/-- The second access of a read reads the register the pointer names (R152). -/
theorem exec_read_pointed (hp : s.ctl.ptr = 0#4) (n : BitVec 4) :
    exec (controlPortRead ch) ((pointAt n s).respond .nothing) = returns (regRead ch n s).1 (regRead ch n s).2 := by
  rw [exec_controlPortRead (by exact hb), pointAt_pointAt_respond, pointAt_of_ptr hp, regRead_respond]
  rfl

end UniversalBus

theorem runOps_single (i : Instr) (s : State) {t : State} (h : exec i s = .next t) : runOps [i] s = .next t := by
  rw [runOps, h]; rfl

theorem runOps_pair (i j : Instr) (s : State) {t u : State} (hi : exec i s = .next t) (hj : exec j t = .next u) :
    runOps [i, j] s = .next u := by
  rw [runOps, hi]; exact runOps_single j t hj

/-- Settles O54: the first access leaves the pointer at the register, and the second reaches it from the state with the pointer
at 0, which is the state before both, the response apart. -/
theorem twoAccessFormsReachTheNamedRegister : Obligations.TwoAccessFormsReachTheNamedRegister := by
  intro ch n v s hb hp
  refine ⟨?_, runOps_pair _ _ s (exec_pointer hb ch hp n) (exec_read_pointed hb ch hp n)⟩
  unfold uwr
  split
  · next h0 =>
    have h := exec_controlPortWrite hb ch v
    rw [hp, pointAt_of_ptr hp, ← h0] at h
    exact runOps_single _ s h
  · exact runOps_pair _ _ s (exec_pointer hb ch hp n) (exec_write_pointed hb ch hp n v)

end Sys2Proof.Machine

/-! ## The register and the bus accesses

Every access of `exec` is a register access by number: a register word names the register (R160, R161), a Universal-Bus word
reaches it through a port (R152, R153), a Z-Bus word by its offset (R156). -/

namespace Sys2Proof.Machine

open Sys2Proof.Claims

/-! ### The register words -/

/-- A well-formed register word of class 00 is the register write it names (R160): the WR0 and WR9 rows stand at the code the
byte carries (R110, R112). -/
theorem exec_of_wellFormed_wordWrite {i : Instr} {ch : ChanId} {n : BitVec 4} {v : Byte} (hw : i.wellFormed = true)
    (hi : wordAccess i = some (.write ch n v)) (s : State) : exec i s = completes (regWrite ch n v s) := by
  cases i <;> cases hi
  case wr0Null | wr0PointHigh | wr0ResetExtStatus | wr0SendAbort | wr0EnableIntNextRx | wr0ResetTxInt | wr0ErrorReset
    | wr0ResetHighestIus => exact show _ = completes (writeWr0 ch v s) by rw [writeWr0, beq_iff_eq.mp hw]; rfl
  case wr9NoReset | wr9ResetB | wr9ResetA | wr9HwReset =>
    exact show _ = completes (writeWr9 v s) by rw [writeWr9, beq_iff_eq.mp hw]; rfl
  all_goals exact exec_of_wordWrite rfl (by decide) (by decide) s

/-- Settles O53: the decoded operation is well formed and names the register; WR2 and WR9 take no channel. -/
theorem regWriteIsTheRowsOperation : Obligations.RegWriteIsTheRowsOperation := fun ch n v s =>
  ⟨exec_of_wellFormed_wordWrite (decodeWrite_wellFormed ch n v) (wordAccess_decodeWrite ch n v) s, rfl, rfl, rfl⟩

/-- Settles O48: the decoded operation is the register read it names, and that is its target's read under both values of the
extended-read bit. -/
theorem regReadFollowsTheRemapTable : Obligations.RegReadFollowsTheRemapTable := by
  intro ch n s
  have read : exec (decodeRead ch n) s = answer (regRead ch n s) := exec_of_wordRead (wordAccess_decodeRead ch n) s
  refine ⟨read, read.trans ?_⟩
  dsimp only
  rw [regRead, show (s.cfg.isEscc && (s.chan ch).wr7p.getLsbD 6) = isExtended ch s from rfl]
  induction n using forall_reg <;> cases isExtended ch s <;> rfl

/-! ### The Universal-Bus words -/

section Ports
variable {i : Instr} {data : Bool} {ch : ChanId} {v : Byte} {s : State}

/-- On a Universal-Bus chip a write word writes the port its offset selects (R152, R153). -/
theorem exec_of_uBus_portWrite (hb : s.cfg.bus = .uBus) (hi : uBusPort i = some (data, ch, some v)) :
    exec i s = portWrite data ch v s := by
  rw [exec_of_portWrite hi, uBusWrite, isZBus_eq_decide, hb]
  cases data <;> rfl

/-- On a Universal-Bus chip a read word reads the port its offset selects (R152, R153). -/
theorem exec_of_uBus_portRead (hb : s.cfg.bus = .uBus) (hi : uBusPort i = some (data, ch, none)) :
    exec i s = portRead data ch s := by
  rw [exec_of_portRead hi, uBusRead, isZBus_eq_decide, hb]
  cases data <;> rfl

/-- A Z-Bus chip declines a write word of the Universal-Bus (R151). -/
theorem exec_of_zBus_portWrite (hb : s.cfg.bus = .zBus) (hi : uBusPort i = some (data, ch, some v)) :
    exec i s = completes s := by
  rw [exec_of_portWrite hi, uBusWrite, isZBus_eq_decide, hb]
  rfl

/-- A Z-Bus chip declines a read word of the Universal-Bus (R151). -/
theorem exec_of_zBus_portRead (hb : s.cfg.bus = .zBus) (hi : uBusPort i = some (data, ch, none)) :
    exec i s = returns 0x00#8 s := by
  rw [exec_of_portRead hi, uBusRead, isZBus_eq_decide, hb]
  rfl

end Ports

/-- Settles O51: the port of each of the sixteen words is the one its rule names. -/
theorem universalBusEntryPointsReachTheirPorts : Obligations.UniversalBusEntryPointsReachTheirPorts := by
  intro o v s hb
  have write {i data ch} (hi : uBusPort i = some (data, ch, some v)) := exec_of_uBus_portWrite hb hi
  have read {i data ch} (hi : uBusPort i = some (data, ch, none)) := exec_of_uBus_portRead hb hi
  exact ⟨write rfl, read rfl, write rfl, read rfl, write rfl, read rfl, write rfl, read rfl,
    write rfl, read rfl, write rfl, read rfl, write rfl, read rfl, write rfl, read rfl⟩

/-! ### The Z-Bus words -/

theorem zbusChan_eq (m : ShiftMode) (o : BitVec 6) :
    zbusChan m o = if m = .left then aIf (o.getLsbD 5) else aIf (o.getLsbD 4) := by
  cases m <;> rfl

theorem zbusIndex_eq (m : ShiftMode) (o : BitVec 6) :
    zbusIndex m o = if m = .left then o.extractLsb' 1 4 else o.extractLsb' 0 4 := by
  cases m <;> rfl

/-- A `zbus` write is the register write its offset names on a Z-Bus chip (R156), and declined on a Universal-Bus chip (R151). -/
theorem exec_busZbusW (o : BitVec 6) (v : Byte) (s : State) :
    exec (.busZbusW o v) s = completes (
      if s.cfg.bus = .zBus then regWrite (zbusChan s.ctl.zshift o) (zbusIndex s.ctl.zshift o) v s else s) := by
  show completes (zBusWrite o v s) = _
  simp only [zBusWrite, isZBus_eq_decide, decide_eq_true_eq]

/-- A `zbus` read is the register read its offset names on a Z-Bus chip (R156), and declined on a Universal-Bus chip (R151). -/
theorem exec_busZbusR (o : BitVec 6) (s : State) :
    exec (.busZbusR o) s = answer (
      if s.cfg.bus = .zBus then regRead (zbusChan s.ctl.zshift o) (zbusIndex s.ctl.zshift o) s else (0x00#8, s)) := by
  show answer (zBusRead o s) = _
  simp only [zBusRead, isZBus_eq_decide, decide_eq_true_eq]

/-- Settles O52: the channel and the register of both shift modes, on a chip that does not decline. -/
theorem zBusOffsetsSelectChannelAndRegister : Obligations.ZBusOffsetsSelectChannelAndRegister := by
  intro o v s hb
  dsimp only
  rw [exec_busZbusW, exec_busZbusR, if_pos hb, if_pos hb, zbusChan_eq, zbusIndex_eq]
  exact ⟨rfl, rfl⟩

/-- Settles O50: the words of the other bus family, `zbus` by its own decode and the sixteen others by their port. -/
theorem mismatchedEntryPointsDecline : Obligations.MismatchedEntryPointsDecline := by
  refine fun o v s => ⟨fun hb => ?_, fun hb => ?_⟩
  · have hz : s.cfg.bus ≠ .zBus := by rw [hb]; decide
    rw [exec_busZbusW, exec_busZbusR, if_neg hz, if_neg hz]
    exact ⟨rfl, rfl⟩
  · refine ⟨fun i hi => ?_, fun i hi => ?_⟩
    · fin_cases hi <;> exact exec_of_zBus_portWrite hb rfl
    · fin_cases hi <;> exact exec_of_zBus_portRead hb rfl

end Sys2Proof.Machine

/-! ## The WR0 commands

A WR0 write is its command on the state the pointer or shift bits leave (R199): the CRC reset code has no effect (R208). -/

namespace Sys2Proof.Machine

open Sys2Proof.Claims

section Wr0Pointer
variable (v : Byte) (s : State)
@[simp] theorem wr0Pointer_chan (ch : ChanId) : (wr0Pointer v s).chan ch = s.chan ch := by
  obtain ⟨chan, -, -, -, -⟩ := wr0Pointer_frame v s
  exact chan ch
@[simp] theorem wr0Pointer_slot (i : SlotId) : (wr0Pointer v s).slot i = s.slot i := by
  obtain ⟨-, -, slot, -, -⟩ := wr0Pointer_frame v s
  exact slot i
@[simp] theorem wr0Pointer_cfg : (wr0Pointer v s).cfg = s.cfg := by
  obtain ⟨-, -, -, cfg, -⟩ := wr0Pointer_frame v s
  exact cfg
end Wr0Pointer

/-- The pointer or shift bits lie below the CRC reset code (R111, R114). -/
theorem wr0Pointer_without_crcCode (v : Byte) (s : State) : wr0Pointer (v &&& 0x3F#8) s = wr0Pointer v s := by
  have pointer : wr0PointerBits (v &&& 0x3F#8) = wr0PointerBits v := by revert v; decide
  have shift : wr0ShiftBits (v &&& 0x3F#8) = wr0ShiftBits v := by revert v; decide
  rw [wr0Pointer, pointer, shift, wr0Pointer]

/-- On the Z-Bus the shift bits select the shift mode, 00 and 01 keep it (R210). -/
theorem wr0Pointer_of_zBus {s : State} (hb : s.cfg.bus = .zBus) (v : Byte) :
    wr0Pointer v s = s.setCtl { s.ctl with
      zshift := if wr0ShiftBits v = 0b10#2 then .left else if wr0ShiftBits v = 0b11#2 then .right else s.ctl.zshift } := by
  rw [wr0Pointer, hb]
  obtain h | h | h | h := bitVec2_cases (wr0ShiftBits v) <;> rw [h] <;> rfl

theorem commandPointHigh_of_zBus {s : State} (hb : s.cfg.bus = .zBus) : commandPointHigh s = s := by
  rw [commandPointHigh, hb]

theorem done_wr0Effects (command : State → State) (v : Byte) (s : State) :
    done (wr0Effects command v s) = completes (command (wr0Pointer v s)) := by
  rw [wr0Effects, wr0CrcReset_eq]; rfl

/-- Each WR0 row carries out one of the eight commands. -/
theorem exec_of_wr0Row {row : ChanId → Byte → Instr} (h : row ∈ wr0Rows) (ch : ChanId) :
    ∃ c ∈ wr0Commands ch, ∀ v s, exec (row ch v) s = completes (c (wr0Pointer v s)) := by
  simp only [wr0Rows, List.mem_cons, List.not_mem_nil, or_false] at h
  obtain rfl | rfl | rfl | rfl | rfl | rfl | rfl | rfl := h <;> exact ⟨_, by simp, done_wr0Effects _⟩

/-- Settles O14: the pointer of R209 or the shift mode of R210, with bit 3 set by point high on the Universal-Bus alone (R201). -/
theorem nullAbortAndPointHighWriteOnlyThePointer : Obligations.NullAbortAndPointHighWriteOnlyThePointer := by
  refine fun ch v s => ⟨fun hb => ?_, fun hb => ?_⟩
  · have pointed := congrArg completes (wr0Pointer_of_uBus hb v)
    refine ⟨(done_wr0Effects _ v s).trans pointed, (done_wr0Effects _ v s).trans pointed,
      (done_wr0Effects _ v s).trans (congrArg completes ?_)⟩
    rw [wr0Pointer_of_uBus hb, commandPointHigh_of_uBus (by exact hb)]
    rfl
  · have shifted := congrArg completes (wr0Pointer_of_zBus hb v)
    refine ⟨(done_wr0Effects _ v s).trans shifted, (done_wr0Effects _ v s).trans shifted,
      (done_wr0Effects _ v s).trans ((congrArg completes ?_).trans shifted)⟩
    exact commandPointHigh_of_zBus ((congrArg Config.bus (wr0Pointer_cfg v s)).trans hb)

/-! ### The underrun latch -/

/-- A new record of a channel that keeps the underrun latch keeps both channels'. -/
theorem setChan_txUnderrun {s : State} {ch : ChanId} {c : Channel} (h : c.txUnderrun = (s.chan ch).txUnderrun)
    (k : ChanId) : ((s.setChan ch c).chan k).txUnderrun = (s.chan k).txUnderrun := by
  by_cases e : k = ch
  · subst e; rwa [setChan_chan]
  · rw [setChan_chan_ne s ch c e]

theorem commandResetExtStatus_txUnderrun (ch k : ChanId) (s : State) :
    ((commandResetExtStatus ch s).chan k).txUnderrun = (s.chan k).txUnderrun := by
  unfold commandResetExtStatus
  dsimp only
  split
  · split
    · split
      · rw [trigger_chan, setChan_txUnderrun (by rfl), clear_chan]
      · rw [setChan_txUnderrun (by rfl), clear_chan]
    · rw [setChan_txUnderrun (by rfl), clear_chan]
  · rw [clear_chan]

theorem commandErrorReset_txUnderrun (ch k : ChanId) (s : State) :
    ((commandErrorReset ch s).chan k).txUnderrun = (s.chan k).txUnderrun := by
  unfold commandErrorReset
  dsimp only
  split
  · rw [trigger_chan, clear_chan, setChan_txUnderrun (by rfl)]
  · rw [clear_chan, setChan_txUnderrun (by rfl)]

/-- No WR0 command touches an underrun latch (R208). -/
theorem wr0Commands_txUnderrun (ch k : ChanId) (s : State) :
    ∀ c ∈ wr0Commands ch, ((c s).chan k).txUnderrun = (s.chan k).txUnderrun := by
  refine forall_wr0Commands.mpr ⟨rfl, ?_, commandResetExtStatus_txUnderrun ch k s, rfl, ?_, ?_,
    commandErrorReset_txUnderrun ch k s, congrArg Channel.txUnderrun (resetHighestIus_chan k s)⟩
  · unfold commandPointHigh
    split
    · rw [setCtl_chan]
    · rfl
  · rw [commandEnableIntNextRx, setChan_txUnderrun (by rfl)]
  · rw [commandResetTxInt, setChan_txUnderrun (by rfl), clear_chan]

/-- Settles O15: a row sees its byte through the pointer or shift bits alone, and no command touches a latch. -/
theorem crcResetCodesHaveNoEffect : Obligations.CrcResetCodesHaveNoEffect := by
  intro row hrow ch v s
  obtain ⟨c, hc, hexec⟩ := exec_of_wr0Row hrow ch
  refine ⟨by rw [hexec, hexec, wr0Pointer_without_crcCode], _, hexec v s, fun k => ?_⟩
  rw [respond_chan, wr0Commands_txUnderrun ch k _ c hc, wr0Pointer_chan]

/-! ### The commands of one channel -/

/-- Settles O16: the three outcomes are the branches of the command, on a channel the pointer bits and the clear leave alone. -/
theorem resetExtStatusReleasesOrRelatches : Obligations.ResetExtStatusReleasesOrRelatches := by
  refine fun ch v s => (done_wr0Effects _ v s).trans (congrArg completes ?_)
  unfold commandResetExtStatus
  simp only [clear_chan, clear_cfg, wr0Pointer_chan, wr0Pointer_cfg, extIntEnable]
  cases (s.chan ch).extLatched
  · rfl
  · by_cases settled : ((s.chan ch).extSnap ^^^ liveRR0 s.cfg (s.chan ch)) &&& (s.chan ch).wr15 &&& 0x28#8 = 0x00#8 <;>
      simp [settled]

/-- Settles O17: each command on a channel the pointer bits and the clear leave alone. -/
theorem armRxAndDisarmTxCommands : Obligations.ArmRxAndDisarmTxCommands := by
  refine fun ch v s => ⟨(done_wr0Effects _ v s).trans ?_, (done_wr0Effects _ v s).trans ?_⟩
  · rw [commandEnableIntNextRx, wr0Pointer_chan]
  · rw [commandResetTxInt, clear_chan, wr0Pointer_chan]

theorem errorResetQueue_of_free {c : Channel} (h : c.rxLocked = false) : errorResetQueue c = c.rxq := by
  simp [errorResetQueue, h]
theorem errorResetQueue_of_locked {c : Channel} (h : c.rxLocked = true) : errorResetQueue c = c.rxq.tail := by
  simp [errorResetQueue, h]

/-- Settles O18: the queue is `errorResetQueue`, the whole one without a lock and its tail with one. -/
theorem errorResetFreesTheLockedEntry : Obligations.ErrorResetFreesTheLockedEntry := by
  refine fun ch v s => ⟨errorResetQueue (s.chan ch), errorResetQueue_of_free, fun locked e rest hq => ?_,
    (done_wr0Effects _ v s).trans (congrArg completes ?_)⟩
  · rw [errorResetQueue_of_locked locked, hq, List.tail_cons]
  · have remain : (!(errorResetQueue (s.chan ch)).isEmpty && rxMode (s.chan ch).wr1 == rxModeAll) = true ↔
        errorResetQueue (s.chan ch) ≠ [] ∧ (s.chan ch).wr1.extractLsb' 3 2 = 0b10#2 := by
      simp [rxMode, rxModeAll]
    simp only [commandErrorReset, wr0Pointer_chan, remain]

/-! ### Reset highest IUS -/

theorem resetHighestIus_of_none {s : State} (h : ∀ i, (s.slot i).ius = false) : resetHighestIus s = s := by
  rw [resetHighestIus, firstInService_eq_none.mpr h]

theorem resetHighestIus_of_least {s : State} {i : SlotId} (hi : (s.slot i).ius = true)
    (least : ∀ j : SlotId, j.index < i.index → (s.slot j).ius = false) :
    resetHighestIus s = s.setSlot i { s.slot i with ius := false } := by
  rw [resetHighestIus, firstInService_eq_some.mpr ⟨hi, least⟩]

/-- Settles O19: the slots are those before the pointer bits, and the least in service is the one found (R410). -/
theorem resetHighestIusClearsTheLeastInServiceSlot : Obligations.ResetHighestIusClearsTheLeastInServiceSlot := by
  refine fun ch v s => ⟨_, done_wr0Effects _ v s, fun idle => ?_, fun i hi least => ?_⟩
  · exact resetHighestIus_of_none fun i => by rw [wr0Pointer_slot, idle i]
  · have h := resetHighestIus_of_least (s := wr0Pointer v s) (i := i) (by rw [wr0Pointer_slot, hi])
      fun j hj => by rw [wr0Pointer_slot, least j hj]
    rwa [wr0Pointer_slot] at h

end Sys2Proof.Machine

/-! ## WR1 to WR15 -/

namespace Sys2Proof.Machine

open Sys2Proof.Claims

/-- Settles O20: each row stores its byte in the one field, by definition. -/
theorem plainRegisterWritesStore : Obligations.PlainRegisterWritesStore := fun _ _ _ => ⟨rfl, rfl, rfl, rfl, rfl, rfl⟩

theorem isEscc_eq_true {cfg : Config} : cfg.isEscc = true ↔ cfg.variant = .escc ∨ cfg.variant = .emscc := by
  unfold Config.isEscc; cases cfg.variant <;> decide

/-- Settles O21: the two variants of R3 are the ones that have WR7'. -/
theorem wr7WriteReachesWr7PrimeOnlyOnEscc : Obligations.Wr7WriteReachesWr7PrimeOnlyOnEscc := by
  intro ch v s
  have prime : (s.cfg.isEscc && wr7pAccess (s.chan ch).wr15) = true ↔
      (s.cfg.variant = .escc ∨ s.cfg.variant = .emscc) ∧ (s.chan ch).wr15.getLsbD 0 = true := by
    rw [Bool.and_eq_true, isEscc_eq_true]; rfl
  show completes (writeWr7 ch v s) = _
  simp only [writeWr7, prime]

/-- Settles O22: the two command bits D4 and D0 of the byte. -/
theorem wr3WriteControlsTheReceiver : Obligations.Wr3WriteControlsTheReceiver := by
  intro ch v s
  show completes (writeWr3 ch v s) = _
  unfold writeWr3 enterHunt rxEnable
  cases v.getLsbD 4 <;> cases v.getLsbD 0 <;> rfl

/-! ### The rate -/

/-- The clock multiplier by its code (R116). -/
theorem mult_eq_getD (wr4 : Byte) : mult wr4 = [1, 16, 32, 64].getD (wr4.extractLsb' 6 2).toNat 0 := by
  unfold mult
  obtain h | h | h | h := bitVec2_cases (wr4.extractLsb' 6 2) <;> rw [h] <;> rfl

/-- The clock the generator divides, by WR14.D1 (R340). -/
theorem brgSourceHz_eq (cfg : Config) (ch : ChanId) (c : Channel) :
    brgSourceHz cfg ch c =
      if c.wr14.getLsbD 1 then cfg.pclkHz else match ch with | .a => cfg.rtxcHzA | .b => cfg.rtxcHzB := by
  cases ch <;> rfl

theorem rateOf_eq_expectedRate (cfg : Config) (ch : ChanId) (c : Channel) : rateOf cfg ch c = expectedRate cfg ch c := by
  rw [rateOf, brgSourceHz_eq, mult_eq_getD]; rfl

theorem rateUpdate_eq_withNewRate (cfg : Config) (ch : ChanId) (c : Channel) :
    rateUpdate cfg ch c = withNewRate cfg ch c := by
  simp only [rateUpdate, withNewRate, rateOf_eq_expectedRate, List.isEmpty_iff]

/-- Settles O23: of R215's branches the second is the rate update of R341. -/
theorem wr4WriteResetsTheShiftRegisters : Obligations.Wr4WriteResetsTheShiftRegisters := by
  intro ch v s
  show completes (writeWr4 ch v s) = _
  simp only [writeWr4, rateUpdate_eq_withNewRate]

/-- Settles O25: both writes are a rate update, and the rate is that of the formula written out. -/
theorem timeConstantWritesRecomputeTheRate : Obligations.TimeConstantWritesRecomputeTheRate := by
  refine ⟨fun ch v s => ⟨?_, ?_⟩, fun cfg ch c => ⟨rateUpdate_eq_withNewRate cfg ch c, rateOf_eq_expectedRate cfg ch c, ?_⟩⟩
  · exact congrArg (fun c => completes (s.setChan ch c)) (rateUpdate_eq_withNewRate ..)
  · exact congrArg (fun c => completes (s.setChan ch c)) (rateUpdate_eq_withNewRate ..)
  · rw [brgOut, brgSourceHz_eq]; rfl

theorem exec_of_wr14Row {row : ChanId → Byte → Instr} (h : row ∈ wr14Rows) (ch : ChanId) (v : Byte) (s : State) :
    exec (row ch v) s = completes (writeWr14 ch v s) := by
  simp only [wr14Rows, List.mem_cons, List.not_mem_nil, or_false] at h
  obtain rfl | rfl | rfl | rfl | rfl | rfl | rfl | rfl := h <;> rfl

/-- The enable bit before and after the write, and the source while it stays set (R224). -/
theorem wr14Rate_eq (cfg : Config) (ch : ChanId) (old : Byte) (c : Channel) :
    wr14Rate cfg ch old c =
      if old.getLsbD 0 = false ∧ c.wr14.getLsbD 0 = true then withNewRate cfg ch c
      else if old.getLsbD 0 = true ∧ c.wr14.getLsbD 0 = false then
        { c with rateApplied := .stopped, ratePending := .stopped, delayedChange := false }
      else if c.wr14.getLsbD 0 = true ∧ old.getLsbD 1 ≠ c.wr14.getLsbD 1 then withNewRate cfg ch c
      else c := by
  unfold wr14Rate brgEnable brgFromPclk
  rw [rateUpdate_eq_withNewRate]
  cases old.getLsbD 0 <;> cases c.wr14.getLsbD 0
  case true.true => simp
  all_goals rfl

/-- Settles O26: each row is the store of the byte and the rate change of `wr14Rate_eq`. -/
theorem wr14WriteHandlesTheEnableEdges : Obligations.Wr14WriteHandlesTheEnableEdges := by
  intro row hrow ch v s
  rw [exec_of_wr14Row hrow, writeWr14, dpllCommand_eq, wr14Rate_eq]

/-! ### WR5 -/

/-- RTS stays asserted after the write, with its release pending, while a character is unsent under auto enables (R217). -/
def rtsHeld (c : Channel) : Bool := c.rtsOn && c.wr3.getLsbD 5 && !c.allSent

theorem wr5Rts_eq (v : Byte) (c : Channel) :
    wr5Rts v c = { c with rtsOn := v.getLsbD 1 || rtsHeld c, rtsReleasePending := !v.getLsbD 1 && rtsHeld c } := by
  unfold wr5Rts rts
  cases hv : v.getLsbD 1
  · show (if rtsHeld c then _ else _) = _
    cases hold : rtsHeld c
    · rfl
    · have on : c.rtsOn = true := by simp [rtsHeld] at hold; exact hold.1.1
      simp [on]
  · rfl

theorem wr5Txd_eq (v : Byte) (c : Channel) :
    wr5Txd v c = { c with
      txd := if v.getLsbD 4 then false else if v.getLsbD 3 = false ∨ c.tsr = [] then true else c.txd } := by
  have mark : (!txEnable v || c.tsr.isEmpty) = true ↔ v.getLsbD 3 = false ∨ c.tsr = [] := by
    simp [txEnable]
  simp only [wr5Txd, mark, sendBreak]
  split
  · rfl
  · split <;> rfl

/-- Settles O24: RTS, then TxD, then the kick. -/
theorem wr5WriteDrivesRtsAndTxd : Obligations.Wr5WriteDrivesRtsAndTxd := by
  intro ch v s
  show completes (writeWr5 ch v s) = _
  simp only [writeWr5, wr5Rts_eq, wr5Txd_eq, rtsHeld]

/-! ### WR9 -/

/-- WR9 after a forced hardware reset, bit by bit: D4 to D2 of the byte over D1 and D0 of the register before (R216). -/
theorem forcedWr9_getLsbD (w v : Byte) (n : Nat) (hn : n < 8) :
    ((w &&& 0x03#8 &&& ~~~0x1C#8) ||| (v &&& 0x1C#8)).getLsbD n =
      if n = 2 ∨ n = 3 ∨ n = 4 then v.getLsbD n else if n = 0 ∨ n = 1 then w.getLsbD n else false := by
  interval_cases n <;> simp

/-- Settles O12: three codes are the store and the channel resets by definition, the fourth by its bits. -/
theorem wr9WriteStoresAndResets : Obligations.Wr9WriteStoresAndResets := fun _ v s =>
  ⟨rfl, rfl, rfl, _, rfl, forcedWr9_getLsbD s.ctl.wr9 v⟩

end Sys2Proof.Machine

/-! ## The read registers

A read row answers with the byte of its rule and leaves the state its rule leaves; the rows that depend on extended read are the
stored register under it and another row without it (R162). -/

namespace Sys2Proof.Machine

open Sys2Proof.Claims

/-! ### RR0 and RR1 -/

theorem zext_shiftLeft_getLsbD (b : Bool) (k : Nat) {n : Nat} (hn : n < 8) :
    (zext b <<< k).getLsbD n = (decide (n = k) && b) := by
  obtain below | rfl | above := Nat.lt_trichotomy n k
  · simp [below, below.ne]
  · cases b <;> simp [zext, hn]
  · have past : n - k ≠ 0 := Nat.sub_ne_zero_of_lt above
    cases b <;> simp [zext, above.ne', past]

/-- The live status by its bits (R260); D1 and D7 are never set. -/
theorem liveRR0_getLsbD (cfg : Config) (c : Channel) {n : Nat} (hn : n < 8) :
    (liveRR0 cfg c).getLsbD n =
      if n = 0 then decide (c.rxq ≠ [])
      else if n = 2 then decide (c.txq.length < ntx cfg)
      else if n = 3 then !c.dcdPin else if n = 4 then c.syncHunt else if n = 5 then !c.ctsPin
      else if n = 6 then c.txUnderrun else false := by
  simp only [liveRR0, BitVec.getLsbD_or, zext_shiftLeft_getLsbD _ _ hn, List.length_pos_iff]
  interval_cases n <;> simp

/-- Under the latch the enabled bits other than D0 and D2 are the snapshot's (R261). -/
theorem rr0Value_getLsbD (cfg : Config) (c : Channel) {n : Nat} (hn : n < 8) :
    (rr0Value cfg c).getLsbD n =
      if c.extLatched = true ∧ c.wr15.getLsbD n = true ∧ n ≠ 0 ∧ n ≠ 2 then c.extSnap.getLsbD n
      else (liveRR0 cfg c).getLsbD n := by
  have mask : (0xFA#8).getLsbD n = decide (n ≠ 0 ∧ n ≠ 2) := by interval_cases n <;> rfl
  have enabled : (c.wr15 &&& 0xFA#8).getLsbD n = decide (c.wr15.getLsbD n = true ∧ n ≠ 0 ∧ n ≠ 2) := by
    simp only [BitVec.getLsbD_and, mask, Bool.decide_and, Bool.decide_eq_true]
  unfold rr0Value
  cases c.extLatched
  · rfl
  · rw [if_pos rfl, BitVec.getLsbD_or, BitVec.getLsbD_and, BitVec.getLsbD_and, BitVec.getLsbD_not, enabled]
    by_cases shown : c.wr15.getLsbD n = true ∧ n ≠ 0 ∧ n ≠ 2
    · rw [if_pos (And.intro rfl shown), decide_eq_true shown]; simp
    · rw [if_neg fun ⟨_, h⟩ => shown h, decide_eq_false shown]; simp [hn]

/-- Settles O43: the bits of `rr0Value`, and of the live status where the snapshot does not show. -/
theorem rr0ShowsLiveOrLatchedStatus : Obligations.Rr0ShowsLiveOrLatchedStatus := fun ch s =>
  ⟨rr0Value s.cfg (s.chan ch), rfl, fun _ hn => by rw [rr0Value_getLsbD _ _ hn, liveRR0_getLsbD _ _ hn]; rfl⟩

/-- All-sent in D0, the residue code in D3 to D1, the error bits in D7 to D4 (R262). -/
theorem rr1Value_getLsbD (c : Channel) {n : Nat} (hn : n < 8) :
    (rr1Value c).getLsbD n =
      if n = 0 then c.allSent else if n ≤ 3 then c.residue.getLsbD (n - 1) else c.errBits.getLsbD (n - 4) := by
  have allSent := zext_shiftLeft_getLsbD c.allSent 0 hn
  rw [BitVec.shiftLeft_zero] at allSent
  simp only [rr1Value, BitVec.getLsbD_or, allSent]
  interval_cases n <;> simp

/-- Settles O44: the bits of `rr1Value`; RR3 is the pending bitmap on channel A and 0 on channel B by definition. -/
theorem rr1AndRr3ShowTheirBits : Obligations.Rr1AndRr3ShowTheirBits := by
  refine ⟨fun ch s => ⟨rr1Value (s.chan ch), rfl, rr1Value_getLsbD _ (by decide), fun n hn => ?_, fun n hn => ?_⟩, fun s => ⟨rfl, rfl⟩⟩
  · rw [rr1Value_getLsbD _ (by omega), if_neg (by omega), if_pos (by omega), Nat.add_sub_cancel_left]
  · rw [rr1Value_getLsbD _ (by omega), if_neg (by omega), if_neg (by omega), Nat.add_sub_cancel_left]

/-! ### RR2 -/

theorem readRr2_of_none_pending {s : State} (h : ∀ i, (s.slot i).ip = false) :
    readRr2 .b s = (modifyVector s.cfg s.ctl.wr9 s.ctl.wr2 .b .special, s) := by
  rw [readRr2, firstPending_eq_none.mpr h]

theorem readRr2_of_least_pending {s : State} {i : SlotId} (hi : (s.slot i).ip = true)
    (least : ∀ j : SlotId, j.index < i.index → (s.slot j).ip = false) :
    readRr2 .b s = (slotVector s i, if s.cfg.isEscc = true ∧ softIack s.ctl.wr9 = true then acknowledge i s else s) := by
  rw [readRr2, firstPending_eq_some.mpr ⟨hi, least⟩]
  simp only [Bool.and_eq_true]

/-- Settles O45: the slot found is the pending one of least index, and its acknowledge needs the variant and WR9.D5. -/
theorem rr2ReadsTheVectorAndMayAcknowledge : Obligations.Rr2ReadsTheVectorAndMayAcknowledge := fun _ =>
  ⟨rfl, fun idle => congrArg answer (readRr2_of_none_pending idle),
    fun _ hi least => congrArg answer (readRr2_of_least_pending hi least)⟩

/-! ### Extended read -/

section ExtendedRead
variable (ch : ChanId) (s : State)

/-- Extended read is WR7'.D6 on a variant that has WR7' (R162). -/
theorem isExtended_eq_true : isExtended ch s = true ↔ s.cfg.isEscc = true ∧ (s.chan ch).wr7p.getLsbD 6 = true :=
  Bool.and_eq_true_iff

theorem exec_rr4 : exec (.rr4 ch) s = if isExtended ch s then returns (s.chan ch).wr4 s else exec (.rr0 ch) s :=
  apply_ite answer ..
theorem exec_rr5 : exec (.rr5 ch) s = if isExtended ch s then returns (s.chan ch).wr5 s else exec (.rr1 ch) s :=
  apply_ite answer ..
theorem exec_rr9 : exec (.rr9 ch) s = if isExtended ch s then returns (s.chan ch).wr3 s else exec (.rr13 ch) s :=
  apply_ite answer ..
theorem exec_rr11 : exec (.rr11 ch) s = if isExtended ch s then returns (s.chan ch).wr10 s else exec (.rr15 ch) s :=
  apply_ite answer ..
theorem exec_rr14 : exec (.rr14 ch) s = if isExtended ch s then returns (s.chan ch).wr7p s else exec (.rr10 ch) s :=
  apply_ite answer ..

end ExtendedRead

/-- Extended read survives what keeps the parameters and WR7'. -/
theorem isExtended_of_kept {s t : State} {ch : ChanId} (h : isExtended ch s = true) (hc : t.cfg = s.cfg)
    (hw : (t.chan ch).wr7p = (s.chan ch).wr7p) : isExtended ch t = true := by
  rw [isExtended_eq_true] at h ⊢
  rwa [hc, hw]

/-- Settles O46: the five rows that depend on extended read by its two values, the four others by definition. -/
theorem echoesAndReadbacks : Obligations.EchoesAndReadbacks := by
  intro ch s
  dsimp only
  rw [← isExtended_eq_true, exec_rr4, exec_rr5, exec_rr9, exec_rr11, exec_rr14]
  refine ⟨fun h => ?_, fun h => ?_, rfl, rfl, rfl, rfl⟩
  · simp only [if_pos h, and_self]
  · simp only [if_neg h, and_self]

/-! ### Every read -/

/-- A register read keeps the parameters and the issued operations, its side effects included (R161, R263, R300). -/
theorem regRead_keeps (ch : ChanId) (n : BitVec 4) (s : State) :
    (regRead ch n s).2.pending = s.pending ∧ (regRead ch n s).2.cfg = s.cfg := by
  obtain h | ⟨-, h⟩ | ⟨-, -, -, -, i, -, h⟩ := regRead_cases ch n s <;> rw [h]
  · exact ⟨rfl, rfl⟩
  · exact ⟨(dataRead_channelOnly ch s).pending, (dataRead_channelOnly ch s).cfg⟩
  · exact ⟨rfl, rfl⟩

/-- A register word of class 01 completes (R161). -/
theorem wordRead_completes {i : Instr} {ch : ChanId} {n : BitVec 4} (hi : wordAccess i = some (.read ch n)) (s : State) :
    ∃ v t, exec i s = returns v t ∧ t.pending = s.pending ∧ t.cfg = s.cfg :=
  ⟨_, _, exec_of_wordRead hi s, regRead_keeps ch n s⟩

/-- Settles O47: RR6 and RR7 are RR2 and RR3 by definition, and each of the sixteen rows is a register read. -/
theorem everyReadCompletesAndEchoesFollowTheirTargets : Obligations.EveryReadCompletesAndEchoesFollowTheirTargets :=
  fun ch s => ⟨rfl, rfl, fun i hi => by fin_cases hi <;> exact wordRead_completes rfl s⟩

/-! ### What is written reads back -/

section ReadBack
variable (ch : ChanId) (v : Byte) (s : State)

theorem writeWr4_registers :
    ((writeWr4 ch v s).chan ch).wr4 = v ∧ ((writeWr4 ch v s).chan ch).wr7p = (s.chan ch).wr7p := by
  unfold writeWr4
  dsimp only
  split
  · next held => exact ⟨held.symm, rfl⟩
  · rw [setChan_chan, rateUpdate_frame]
    exact ⟨rfl, rfl⟩

theorem kickedChannel_registers (c : Channel) : (kickedChannel c).wr5 = c.wr5 ∧ (kickedChannel c).wr7p = c.wr7p := by
  unfold kickedChannel
  split
  · exact ⟨rfl, rfl⟩
  · split <;> exact ⟨rfl, rfl⟩

theorem writeWr5_registers :
    ((writeWr5 ch v s).chan ch).wr5 = v ∧ ((writeWr5 ch v s).chan ch).wr7p = (s.chan ch).wr7p := by
  unfold writeWr5
  dsimp only
  split
  · next held => exact ⟨held.symm, rfl⟩
  · rw [txKick_chan, setChan_chan, wr5Rts_eq, wr5Txd_eq]
    exact kickedChannel_registers _

theorem writeWr10_registers :
    ((writeWr10 ch v s).chan ch).wr10 = v ∧ ((writeWr10 ch v s).chan ch).wr7p = (s.chan ch).wr7p := by
  rw [writeWr10, setChan_chan]
  exact ⟨rfl, rfl⟩

theorem writeWr12_wr12 : ((writeWr12 ch v s).chan ch).wr12 = v := by
  rw [writeWr12, setChan_chan, rateUpdate_frame]

theorem writeWr13_wr13 : ((writeWr13 ch v s).chan ch).wr13 = v := by
  rw [writeWr13, setChan_chan, rateUpdate_frame]

theorem writeWr15_wr15 : ((writeWr15 ch v s).chan ch).wr15 = v := by
  rw [writeWr15, setChan_chan]

end ReadBack

/-- A register is read back from the state its write completes in, whatever the write returned. -/
theorem returns_respond_of_register {field : Channel → Byte} {ch : ChanId} {v : Byte} {u : State}
    (h : field (u.chan ch) = v) (r : Response) :
    returns (field ((u.respond r).chan ch)) (u.respond r) = returns v (u.respond r) := by
  rw [respond_chan, h]

/-- Settles O49: each write stores its byte, and those of WR4, WR5 and WR10 keep the extended read that shows it. -/
theorem writtenRegistersReadBack : Obligations.WrittenRegistersReadBack := by
  intro ch v s
  refine ⟨fun escc bit => ?_, ⟨_, rfl, returns_respond_of_register (writeWr12_wr12 ch v s) _⟩,
    ⟨_, rfl, returns_respond_of_register (writeWr13_wr13 ch v s) _⟩,
    ⟨_, rfl, returns_respond_of_register (writeWr15_wr15 ch v s) _⟩⟩
  have kept {u : State} (hw : (u.chan ch).wr7p = (s.chan ch).wr7p) (hu : ChannelOnly ch s u) :
      isExtended ch (u.respond .nothing) = true :=
    isExtended_of_kept ((isExtended_eq_true ch s).mpr ⟨escc, bit⟩) hu.cfg (by rwa [respond_chan])
  obtain ⟨wr4, keeps4⟩ := writeWr4_registers ch v s
  obtain ⟨wr5, keeps5⟩ := writeWr5_registers ch v s
  obtain ⟨wr10, keeps10⟩ := writeWr10_registers ch v s
  refine ⟨⟨_, rfl, ?_⟩, ⟨_, rfl, ?_⟩, ⟨_, rfl, ?_⟩⟩
  · rw [exec_rr4, if_pos (kept keeps4 (writeWr4_channelOnly ch v s)), respond_chan, wr4]
  · rw [exec_rr5, if_pos (kept keeps5 (writeWr5_channelOnly ch v s)), respond_chan, wr5]
  · rw [exec_rr11, if_pos (kept keeps10 (setChan_channelOnly s ch _)), respond_chan, wr10]

end Sys2Proof.Machine

/-! ## The data register and the transmitter -/

namespace Sys2Proof.Machine

open Sys2Proof.Claims

/-- Settles O27: the two branches of R305, under the capacity of R7. -/
theorem dataWritePushesOrDrops : Obligations.DataWritePushesOrDrops := fun _ _ _ =>
  ⟨rfl, fun room => if_pos room, fun full => if_neg full⟩

/-! ### The kick -/

theorem txKick_of_empty {ch : ChanId} {s : State} (h : (s.chan ch).txq = []) : txKick ch s = s := by
  simp only [txKick, h]

theorem txKick_of_waiting {ch : ChanId} {s : State} {b : Byte} {rest : List Byte} (h : (s.chan ch).txq = b :: rest) :
    txKick ch s =
      if canStart (s.chan ch) then
        txIntCheck ch ((s.chan ch).txq.length == ntx s.cfg)
          (s.setChan ch { s.chan ch with txq := rest, tsr := frame (s.chan ch).wr4 (s.chan ch).wr5 b })
      else s := by
  simp only [txKick, h]

/-- The transmitter may start when it is enabled, sends no break, is idle and is not held by /CTS (R310). -/
theorem canStart_eq_true {c : Channel} :
    canStart c = true ↔ c.wr5.getLsbD 3 = true ∧ c.wr5.getLsbD 4 = false ∧ c.tsr = [] ∧
      ¬(c.wr3.getLsbD 5 = true ∧ c.ctsPin = true) := by
  simp only [canStart, txEnable, sendBreak, ctsOk, autoEnables, Bool.and_eq_true, Bool.not_eq_true', List.isEmpty_iff,
    and_assoc, ← Bool.not_eq_true]

/-- The transmit interrupt fires on an empty FIFO under WR7'.D5 and on one that was full otherwise, when WR1.D1 and the disarm
allow it (R313). -/
theorem txIntCheck_eq (ch : ChanId) (wasFull : Bool) (s : State) :
    txIntCheck ch wasFull s =
      if (if s.cfg.isEscc = true ∧ (s.chan ch).wr7p.getLsbD 5 = true then (s.chan ch).txq = [] else wasFull = true) ∧
          (s.chan ch).txIntDisarmed = false ∧ (s.chan ch).wr1.getLsbD 1 = true
      then trigger ch .tx s else s := by
  unfold txIntCheck txFifoEmptyLevel txIntEnable
  simp [and_assoc]

/-- Settles O29: a waiting head is loaded under `canStart`, and the interrupt check reads the channel after the load. -/
theorem txKickStartsACharacterExactlyWhenAllowed : Obligations.TxKickStartsACharacterExactlyWhenAllowed := by
  intro ch s
  refine ⟨txKick_of_empty, fun b rest hq => ?_⟩
  dsimp only
  rw [← canStart_eq_true, txKick_of_waiting hq]
  refine ⟨fun held => if_neg held, fun start fire => ?_, fun start quiet => ?_⟩
  · rw [if_pos start, txIntCheck_eq, setChan_chan, setChan_cfg]
    exact if_pos (by simpa [ntx] using fire)
  · rw [if_pos start, txIntCheck_eq, setChan_chan, setChan_cfg]
    exact if_neg (by simpa [ntx] using quiet)

/-! ### The end of a character -/

theorem applyDelayedRate_eq (c : Channel) :
    applyDelayedRate c = { c with
      rateApplied := if c.delayedChange then c.ratePending else c.rateApplied, delayedChange := false } := by
  unfold applyDelayedRate
  by_cases due : c.delayedChange = true
  · rw [if_pos due, if_pos due]
  · rw [if_neg due, if_neg due, ← Bool.eq_false_of_not_eq_true due]

theorem markAllSent_eq (c : Channel) :
    markAllSent c = { c with
      allSent := true, rtsOn := c.rtsOn && !c.rtsReleasePending, rtsReleasePending := false } := by
  unfold markAllSent
  cases c.rtsReleasePending <;> simp

/-- Settles O31: the branches of R311, with the two changes of the channel record written out. -/
theorem transmitCompleteReloadsOrReportsAllSent : Obligations.TransmitCompleteReloadsOrReportsAllSent := by
  intro ch s
  simp only [transmitComplete, setChan_chan, applyDelayedRate_eq, markAllSent_eq, txEnable, sendBreak, Bool.and_eq_true,
    Bool.not_eq_true', List.isEmpty_iff]

/-! ### The transmit clock edge -/

theorem isSynchronous_eq_true {wr4 : Byte} : isSynchronous wr4 = true ↔ wr4.extractLsb' 2 2 = 0b00#2 := beq_iff_eq

theorem exec_txc_of_synchronous {ch : ChanId} {s : State} (h : isSynchronous (s.chan ch).wr4 = true) :
    exec (.txc ch) s = .refused (.synchronousMode ch) := if_pos h

theorem exec_txc_of_clocked {ch : ChanId} {s : State} (h : Clocked s ch) :
    exec (.txc ch) s = completes (txClockEdge ch s) := if_neg (Bool.eq_false_iff.mp h)

theorem exec_rxc_of_synchronous {ch : ChanId} {s : State} (h : isSynchronous (s.chan ch).wr4 = true) :
    exec (.rxc ch) s = .refused (.synchronousMode ch) := if_pos h

theorem exec_rxc_of_clocked {ch : ChanId} {s : State} (h : Clocked s ch) :
    exec (.rxc ch) s = completes (rxClockEdge ch s) := if_neg (Bool.eq_false_iff.mp h)

theorem clocked_iff {s : State} {ch : ChanId} : Clocked s ch ↔ (s.chan ch).wr4.extractLsb' 2 2 ≠ 0b00#2 := by
  rw [Clocked, ← Bool.not_eq_true, isSynchronous_eq_true]

/-- A bit step sends space for a break, mark when disabled or idle, and else the next bit, whose last completes the character
(R320). -/
theorem txBitStep_eq (ch : ChanId) (s : State) :
    txBitStep ch s =
      if (s.chan ch).wr5.getLsbD 4 = true then s.setChan ch { s.chan ch with txd := false }
      else if (s.chan ch).wr5.getLsbD 3 = false then s.setChan ch { s.chan ch with txd := true }
      else if (s.chan ch).tsr.length = 1 then
        transmitComplete ch (s.setChan ch { s.chan ch with txd := (s.chan ch).tsr.headD true, tsr := (s.chan ch).tsr.tail })
      else s.setChan ch { s.chan ch with txd := (s.chan ch).tsr.headD true, tsr := (s.chan ch).tsr.tail } := by
  simp only [txBitStep, sendBreak, txEnable, Bool.not_eq_true']
  refine if_congr Iff.rfl rfl (if_congr Iff.rfl rfl ?_)
  split
  · next idle => rw [idle]; rfl
  · next last => simp [last]
  · next rest more next =>
    have more : rest ≠ [] := more
    simp [next, more]

/-- Settles O32: the count of R321, then the bit step of R320 on the channel with its count at 0. -/
theorem transmitClockEdgeSendsOneBitEveryMultEdges : Obligations.TransmitClockEdgeSendsOneBitEveryMultEdges := by
  intro ch s
  refine ⟨fun sync => exec_txc_of_synchronous (isSynchronous_eq_true.mpr sync), fun async => ?_⟩
  rw [exec_txc_of_clocked (clocked_iff.mpr async), ← mult_eq_getD]
  refine congrArg completes ?_
  unfold txClockEdge
  dsimp only
  by_cases counting : (s.chan ch).txDiv + 1 < mult (s.chan ch).wr4
  · rw [if_neg (Nat.not_le.mpr counting), if_pos counting]
  · rw [if_pos (Nat.not_lt.mp counting), if_neg counting, txBitStep_eq]
    simp only [setChan_chan, setChan_setChan]

end Sys2Proof.Machine

/-! ## The frame and its parity -/

namespace Sys2Proof.Machine

open Sys2Proof.Claims

/-- The word length by its code (R116). -/
theorem wordLength_eq_getD (code : BitVec 2) : wordLength code = [5, 7, 6, 8].getD code.toNat 0 := by
  obtain rfl | rfl | rfl | rfl := bitVec2_cases code <;> rfl

theorem wordLength_pos (code : BitVec 2) : 0 < wordLength code := by unfold wordLength; split <;> decide

/-- The exclusive or of the low bits says whether an odd number of them is 1 (R312). -/
theorem xorBits_eq_odd (b : Byte) (k : Nat) :
    xorBits b k = decide (((List.range k).filter fun i => b.getLsbD i).length % 2 = 1) := by
  induction k with
  | zero => rfl
  | succ k ih =>
    have step : xorBits b (k + 1) = (xorBits b k ^^ b.getLsbD k) := by
      simp [xorBits, List.range_succ, List.foldl_append]
    rw [step, ih, List.range_succ, List.filter_append, List.length_append]
    cases hb : b.getLsbD k
    · simp [hb]
    · simp only [hb, List.filter_cons_of_pos, List.filter_nil, List.length_singleton, Bool.xor_true, ← decide_not,
        decide_eq_decide]
      omega

theorem count_dataBits (b : Byte) (k : Nat) :
    (dataBits b k).count true = ((List.range k).filter fun i => b.getLsbD i).length := by
  rw [dataBits, List.count_eq_countP, List.countP_map, List.countP_eq_length_filter]
  simp [Function.comp_def]

theorem parityBit_eq (wr4 b : Byte) (k : Nat) :
    parityBit wr4 b k = if wr4.getLsbD 1 then xorBits b k else !xorBits b k := rfl

/-- The parity bit makes the number of ones even or odd, as WR4.D1 says (R312). -/
theorem count_with_parityBit (wr4 b : Byte) (k : Nat) :
    (dataBits b k ++ [parityBit wr4 b k]).count true % 2 = 0 ↔ wr4.getLsbD 1 = true := by
  rw [List.count_append, count_dataBits, parityBit_eq, xorBits_eq_odd]
  obtain h | h := Nat.mod_two_eq_zero_or_one ((List.range k).filter fun i => b.getLsbD i).length <;>
    cases wr4.getLsbD 1 <;> simp [h] <;> omega

/-- The parity bit of a frame, if parity is on (R312). -/
def parityPart (wr4 b : Byte) (k : Nat) : List Bool := if parityOn wr4 then [parityBit wr4 b k] else []

/-- The stop bits of a frame (R312). -/
def stopPart (wr4 : Byte) : List Bool := if isOneStopBit wr4 then [true] else [true, true]

theorem frame_eq (wr4 wr5 b : Byte) :
    frame wr4 wr5 b =
      false :: (dataBits b (txBits wr5) ++ (parityPart wr4 b (txBits wr5) ++ stopPart wr4)) := by
  simp [frame, parityPart, stopPart]

theorem stopPart_eq_replicate (wr4 : Byte) :
    stopPart wr4 = List.replicate (if wr4.extractLsb' 2 2 = 0b01#2 then 1 else 2) true := by
  have one : isOneStopBit wr4 = true ↔ wr4.extractLsb' 2 2 = 0b01#2 := beq_iff_eq
  simp only [stopPart, one]
  split <;> rfl

theorem parityPart_length (wr4 b : Byte) (k : Nat) :
    (parityPart wr4 b k).length = if wr4.getLsbD 0 then 1 else 0 := apply_ite List.length ..

/-- Settles O30: the bits of the frame by its four parts. -/
theorem frameHasTheAsynchronousLayout : Obligations.FrameHasTheAsynchronousLayout := by
  intro wr4 wr5 b
  dsimp only
  rw [← wordLength_eq_getD, show wordLength (wr5.extractLsb' 5 2) = txBits wr5 from rfl, frame_eq, stopPart_eq_replicate,
    ← parityPart_length wr4 b (txBits wr5)]
  have data := dataBits_length b (txBits wr5)
  refine ⟨?_, rfl, fun i hi => ?_, fun on => ?_, fun i hi => ?_⟩
  · simp only [List.length_cons, List.length_append, List.length_replicate, data]
    omega
  · rw [Nat.add_comm, List.getElem?_cons_succ, List.getElem?_append_left (by omega)]
    simp [dataBits, hi]
  · have parity : parityPart wr4 b (txBits wr5) = [parityBit wr4 b (txBits wr5)] := if_pos on
    rw [parity, List.drop_succ_cons, List.drop_zero, ← List.append_assoc, List.take_left' (by simp [data]),
      count_with_parityBit]
  · rw [← List.append_assoc, Nat.add_assoc, Nat.add_assoc, Nat.add_comm 1, List.getElem?_cons_succ,
      List.getElem?_append_right (by simp only [List.length_append, data]; omega), List.getElem?_replicate_of_lt]
    simp only [List.length_append, data]
    omega

end Sys2Proof.Machine

/-! ## The receiver -/

namespace Sys2Proof.Machine

open Sys2Proof.Claims

/-! ### The receive FIFO -/

theorem nrx_ge_three (cfg : Config) : 3 ≤ nrx cfg := by unfold nrx; split <;> decide

theorem pushRx_eq (cfg : Config) (q : List RxEntry) (d err : Byte) :
    pushRx cfg q d err =
      if q.length = nrx cfg then q.take (nrx cfg - 1) ++ [⟨d, err ||| 0x20#8⟩] else q ++ [⟨d, err⟩] := by
  unfold pushRx replaceLast
  split
  · next full => rw [List.dropLast_eq_take, full]
  · rfl

/-- A completed character leaves the head of a FIFO that has one: a full FIFO holds more than its newest entry (R327). -/
theorem pushRx_cons (cfg : Config) (e : RxEntry) (rest : List RxEntry) (d err : Byte) :
    ∃ rest', pushRx cfg (e :: rest) d err = e :: rest' := by
  have capacity := nrx_ge_three cfg
  rw [pushRx_eq]
  split
  · obtain ⟨n, hn⟩ : ∃ n, nrx cfg - 1 = n + 1 := ⟨nrx cfg - 2, by omega⟩
    exact ⟨_, by rw [hn, List.take_succ_cons, List.cons_append]⟩
  · exact ⟨_, List.cons_append⟩

/-- Settles O34: the push of R327, then the interrupt by the mode; a full FIFO has a head that stays. -/
theorem receiveDataPushesOrOverruns : Obligations.ReceiveDataPushesOrOverruns := by
  intro ch d e s
  dsimp only
  rw [show (if s.cfg.isEscc then 8 else 3) = nrx s.cfg from rfl, ← pushRx_eq]
  refine ⟨?_, fun full => ?_⟩
  · simp only [receiveData, rxMode, rxModeAll, rxModeFirst]
    refine if_congr Iff.rfl rfl ?_
    by_cases first : (s.chan ch).wr1.extractLsb' 3 2 = 0b01#2 <;> simp [first]
  · have capacity := nrx_ge_three s.cfg
    refine ⟨?_, ?_⟩
    · rw [pushRx_eq, if_pos full, List.length_append, List.length_take, full, List.length_singleton]
      omega
    · cases hq : (s.chan ch).rxq with
      | nil => simp [hq] at full; omega
      | cons e' rest => obtain ⟨rest', h⟩ := pushRx_cons s.cfg e' rest d e; rw [h]; rfl

/-- A completed character reaches the FIFO and the first-character arm alone (R327). -/
theorem receiveData_chan (ch : ChanId) (d err : Byte) (s : State) :
    ∃ armed, (receiveData ch d err s).chan ch =
      { s.chan ch with rxq := pushRx s.cfg (s.chan ch).rxq d err, rxFirstArmed := armed } := by
  unfold receiveData
  dsimp only
  split
  · exact ⟨_, (trigger_chan ..).trans (setChan_chan ..)⟩
  · split
    · split
      · exact ⟨_, (trigger_chan ..).trans (setChan_chan ..)⟩
      · exact ⟨_, setChan_chan ..⟩
    · exact ⟨_, setChan_chan ..⟩

/-! ### The receive clock edge -/

theorem rxGated_eq_true {c : Channel} :
    rxGated c = true ↔ c.wr3.getLsbD 0 = false ∨ (c.wr3.getLsbD 5 = true ∧ c.dcdPin = true) := by
  simp [rxGated, rxEnable, autoEnables]

/-- An edge before the `mult`-th only counts (R326). -/
theorem rxClockEdge_of_counting {ch : ChanId} {s : State} (h : (s.chan ch).rxDiv + 1 < mult (s.chan ch).wr4) :
    rxClockEdge ch s = s.setChan ch { s.chan ch with rxDiv := (s.chan ch).rxDiv + 1 } := if_neg (Nat.not_le.mpr h)

/-- The `mult`-th edge steps the assembler, with the count back at 0 (R326). -/
theorem rxClockEdge_of_due {ch : ChanId} {s : State} (h : mult (s.chan ch).wr4 ≤ (s.chan ch).rxDiv + 1) :
    rxClockEdge ch s = rxBitStep ch (s.setChan ch { s.chan ch with rxDiv := 0 }) := if_pos h

section Assembler
variable {ch : ChanId} {s : State}

theorem rxBitStep_of_gated (h : rxGated (s.chan ch) = true) :
    rxBitStep ch s = s.setChan ch { s.chan ch with rxs := .idle } := if_pos h

variable (h : rxGated (s.chan ch) = false)
include h

/-- A space starts a character, a mark keeps the assembler idle (R325). -/
theorem rxBitStep_of_idle (hx : (s.chan ch).rxs = .idle) :
    rxBitStep ch s = if (s.chan ch).rxdPin then s else s.setChan ch { s.chan ch with rxs := .data 0 0x00#8 } := by
  simp [rxBitStep, h, hx]

/-- A data bit goes to its place; the last is followed by the parity bit or the stop bit (R325). -/
theorem rxBitStep_of_data {k : Nat} {acc : Byte} (hx : (s.chan ch).rxs = .data k acc) :
    rxBitStep ch s = s.setChan ch { s.chan ch with
      rxs :=
        if k + 1 = rxBits (s.chan ch).wr3 then
          if parityOn (s.chan ch).wr4 then .parity (acc ||| (zext (s.chan ch).rxdPin <<< k))
          else .stop (acc ||| (zext (s.chan ch).rxdPin <<< k)) false
        else .data (k + 1) (acc ||| (zext (s.chan ch).rxdPin <<< k)) } := by
  simp only [rxBitStep, h, hx, Bool.false_eq_true, if_false]
  split <;> rfl

theorem rxBitStep_of_parity {acc : Byte} (hx : (s.chan ch).rxs = .parity acc) :
    rxBitStep ch s = s.setChan ch { s.chan ch with
      rxs := .stop acc ((s.chan ch).rxdPin != parityBit (s.chan ch).wr4 acc (rxBits (s.chan ch).wr3)) } := by
  simp [rxBitStep, h, hx]

theorem rxBitStep_of_stop {acc : Byte} {perr : Bool} (hx : (s.chan ch).rxs = .stop acc perr) :
    rxBitStep ch s =
      receiveData ch acc (rxErrorByte perr (s.chan ch).rxdPin) (s.setChan ch { s.chan ch with rxs := .idle }) := by
  simp [rxBitStep, h, hx]

end Assembler

/-- Settles O33: the count of R326, then the assembler of R325 by its state. -/
theorem receiveClockEdgeAssemblesTheCharacter : Obligations.ReceiveClockEdgeAssemblesTheCharacter := by
  intro ch s
  dsimp only
  refine ⟨fun sync => exec_rxc_of_synchronous (isSynchronous_eq_true.mpr sync), fun async => ?_⟩
  rw [exec_rxc_of_clocked (clocked_iff.mpr async), ← mult_eq_getD, ← wordLength_eq_getD]
  refine congrArg completes ?_
  by_cases counting : (s.chan ch).rxDiv + 1 < mult (s.chan ch).wr4
  · rw [rxClockEdge_of_counting counting, if_pos counting]
  rw [rxClockEdge_of_due (Nat.not_lt.mp counting), if_neg counting]
  have chan := setChan_chan s ch { s.chan ch with rxDiv := 0 }
  by_cases gated : rxGated (s.chan ch) = true
  · rw [rxBitStep_of_gated (by rwa [chan]), if_pos (rxGated_eq_true.mp gated), chan, setChan_setChan]
  rw [if_neg (rxGated_eq_true.not.mp gated)]
  have live : rxGated { s.chan ch with rxDiv := 0 } = false := Bool.eq_false_of_not_eq_true gated
  rw [← chan] at live
  cases hx : (s.chan ch).rxs with
  | idle =>
    rw [rxBitStep_of_idle live (by rwa [chan]), chan]
    dsimp only
    rw [setChan_setChan, ← hx]
  | data k acc =>
    rw [rxBitStep_of_data live (by rw [chan]; exact hx), chan, setChan_setChan]
    let move := fun x => s.setChan ch { s.chan ch with rxDiv := 0, rxs := x }
    exact (apply_ite move ..).trans (if_congr Iff.rfl (apply_ite move ..) rfl)
  | parity acc =>
    rw [rxBitStep_of_parity live (by rw [chan]; exact hx), chan, setChan_setChan]
    dsimp only
    rw [parityBit_eq, xorBits_eq_odd]
    rfl
  | stop acc perr =>
    rw [rxBitStep_of_stop live (by rw [chan]; exact hx), chan, setChan_setChan]
    rfl

end Sys2Proof.Machine

/-! ## The line events -/

namespace Sys2Proof.Machine

open Sys2Proof.Claims

/-- Settles O37: each event stores its level, by definition. -/
theorem rxdSyncAndRiSetTheirPins : Obligations.RxdSyncAndRiSetTheirPins := fun _ _ _ => ⟨rfl, rfl, rfl⟩

/-- The enables of /CTS and /DCD in WR15 (R345). -/
theorem wr15_cts_enable (wr15 : Byte) : (wr15 &&& 0x20#8 != 0x00#8) = wr15.getLsbD 5 := by revert wr15; decide
theorem wr15_dcd_enable (wr15 : Byte) : (wr15 &&& 0x08#8 != 0x00#8) = wr15.getLsbD 3 := by revert wr15; decide

/-- After a pin has changed the channel to `c`, an enabled change takes a free latch with the RR0 of `c`, and raises EXT under
WR1.D0 (R345). -/
theorem latchExternal_of_change (ch : ChanId) (s : State) (c : Channel) (enabled : Bool) :
    (if enabled = true then latchExternal ch (s.setChan ch c) else s.setChan ch c) =
      if enabled = true ∧ c.extLatched = false then
        if c.wr1.getLsbD 0 then
          trigger ch .ext (s.setChan ch { c with extLatched := true, extSnap := liveRR0 s.cfg c })
        else s.setChan ch { c with extLatched := true, extSnap := liveRR0 s.cfg c }
      else s.setChan ch c := by
  simp only [latchExternal, extIntEnable, setChan_chan, setChan_cfg, setChan_setChan]
  cases enabled <;> cases c.extLatched <;> rfl

/-- Settles O36: a held level stores what is there; a change stores the pin and latches, and an asserted /CTS kicks. -/
theorem ctsAndDcdChangesLatchAndRaise : Obligations.CtsAndDcdChangesLatchAndRaise := by
  intro ch l s
  refine ⟨congrArg completes ?_, congrArg completes ?_⟩
  · by_cases held : l = (s.chan ch).ctsPin
    · rw [if_pos held, ctsEvent, if_pos held.symm, held]
      exact setChan_self s ch
    · simp only [if_neg held, ctsEvent, if_neg (Ne.symm held), wr15_cts_enable, latchExternal_of_change]
  · by_cases held : l = (s.chan ch).dcdPin
    · rw [if_pos held, dcdEvent, if_pos held.symm, held]
      exact setChan_self s ch
    · simp only [if_neg held, dcdEvent, if_neg (Ne.symm held), wr15_dcd_enable, latchExternal_of_change]

end Sys2Proof.Machine

/-! ## The locked receive FIFO

A locked FIFO keeps its head and its lock through every operation but an error reset and a reset of its channel (R523):
`HeadLocked e c` is kept by everything else. -/

namespace Sys2Proof.Machine

open Sys2Proof.Claims

/-- The receive FIFO is locked on its head `e`. -/
def HeadLocked (e : RxEntry) (c : Channel) : Prop := c.rxLocked = true ∧ ∃ rest, c.rxq = e :: rest

/-- The WR0 commands other than the error reset. -/
def keepingCommands (ch : ChanId) : List (State → State) :=
  [commandNull, commandPointHigh, commandResetExtStatus ch, commandSendAbort, commandEnableIntNextRx ch, commandResetTxInt ch,
    commandResetHighestIus]

/-- The WR9 code that resets a channel (R216). -/
def channelResetCode : ChanId → BitVec 2
  | .a => 0b10#2
  | .b => 0b01#2

theorem ChanId.eq_other_of_ne {k ch : ChanId} (h : k ≠ ch) : ch = k.other := by
  cases k <;> cases ch <;> first | rfl | exact absurd rfl h

theorem channelReset_chan_other (ch : ChanId) (s : State) : (channelReset ch s).chan ch.other = s.chan ch.other := by
  simp [channelReset, channelSlots, idleSlot]

section Operations
variable {e : RxEntry} {ch : ChanId} {s : State}

/-- A stored record is locked on `e` if it is: one that touches neither the FIFO nor the lock is locked as the channel was. -/
theorem setChan_headLocked (s : State) (ch : ChanId) (c : Channel) (h : HeadLocked e c) :
    HeadLocked e ((s.setChan ch c).chan ch) := by
  rwa [setChan_chan]

theorem ite_headLocked {p : Prop} [Decidable p] {t u : State} (ht : HeadLocked e (t.chan ch))
    (hu : HeadLocked e (u.chan ch)) : HeadLocked e ((if p then t else u).chan ch) := by
  split
  · exact ht
  · exact hu

variable (h : HeadLocked e (s.chan ch))
include h

theorem trigger_headLocked (k : ChanId) (t : IntType) : HeadLocked e ((trigger k t s).chan ch) := by rwa [trigger_chan]
theorem clear_headLocked (k : ChanId) (c : Condition) : HeadLocked e ((clear k c s).chan ch) := by rwa [clear_chan]

/-! ### The transmitter -/

theorem txKick_headLocked : HeadLocked e ((txKick ch s).chan ch) := by
  rw [txKick_chan]
  unfold kickedChannel
  split
  · exact h
  · split <;> exact h

theorem dataWrite_headLocked (v : Byte) : HeadLocked e ((dataWrite ch v s).chan ch) := by
  unfold dataWrite
  dsimp only
  have pushed := clear_headLocked (setChan_headLocked s ch { s.chan ch with
    txq := (s.chan ch).txq ++ [v], allSent := false, txIntDisarmed := false } h) ch .tx
  exact ite_headLocked (txKick_headLocked pushed) (txKick_headLocked h)

theorem transmitComplete_headLocked : HeadLocked e ((transmitComplete ch s).chan ch) := by
  have rated := setChan_headLocked s ch (applyDelayedRate (s.chan ch)) (by rwa [applyDelayedRate_eq])
  have kicked := txKick_headLocked rated
  unfold transmitComplete
  dsimp only
  exact ite_headLocked (ite_headLocked (setChan_headLocked _ ch _ (by rwa [markAllSent_eq])) kicked) rated

theorem txBitStep_headLocked : HeadLocked e ((txBitStep ch s).chan ch) := by
  rw [txBitStep_eq]
  split
  · exact setChan_headLocked s ch _ h
  · split
    · exact setChan_headLocked s ch _ h
    · exact ite_headLocked (transmitComplete_headLocked (setChan_headLocked s ch _ (by exact h))) (setChan_headLocked s ch _ h)

theorem txClockEdge_headLocked : HeadLocked e ((txClockEdge ch s).chan ch) := by
  unfold txClockEdge
  dsimp only
  split
  · exact txBitStep_headLocked (setChan_headLocked s ch _ (by exact h))
  · exact setChan_headLocked s ch _ h

/-! ### The receiver and the data register -/

/-- A completed character goes behind the head (R327). -/
theorem receiveData_headLocked (d err : Byte) : HeadLocked e ((receiveData ch d err s).chan ch) := by
  obtain ⟨locked, rest, head⟩ := h
  obtain ⟨armed, hc⟩ := receiveData_chan ch d err s
  rw [hc, head]
  exact ⟨locked, pushRx_cons s.cfg e rest d err⟩

theorem rxBitStep_headLocked : HeadLocked e ((rxBitStep ch s).chan ch) := by
  cases gated : rxGated (s.chan ch)
  case true => rw [rxBitStep_of_gated gated]; exact setChan_headLocked s ch _ h
  cases hx : (s.chan ch).rxs with
  | idle => rw [rxBitStep_of_idle gated hx]; exact ite_headLocked h (setChan_headLocked s ch _ h)
  | data k acc => rw [rxBitStep_of_data gated hx]; exact setChan_headLocked s ch _ h
  | parity acc => rw [rxBitStep_of_parity gated hx]; exact setChan_headLocked s ch _ h
  | stop acc perr => rw [rxBitStep_of_stop gated hx]; exact receiveData_headLocked (setChan_headLocked s ch _ (by exact h)) _ _

theorem rxClockEdge_headLocked : HeadLocked e ((rxClockEdge ch s).chan ch) := by
  unfold rxClockEdge
  dsimp only
  split
  · exact rxBitStep_headLocked (setChan_headLocked s ch _ (by exact h))
  · exact setChan_headLocked s ch _ h

theorem dataRead_headLocked : HeadLocked e ((dataRead ch s).2.chan ch) := by
  obtain ⟨locked, rest, head⟩ := h
  obtain ⟨queue, lock⟩ := dataRead_of_locked locked
  exact ⟨lock, rest, queue.trans head⟩

/-! ### The line events -/

theorem latchExternal_headLocked : HeadLocked e ((latchExternal ch s).chan ch) := by
  have latched (v : Byte) := setChan_headLocked s ch { s.chan ch with extLatched := true, extSnap := v } h
  unfold latchExternal
  dsimp only
  exact ite_headLocked h (ite_headLocked (trigger_headLocked (latched _) ch .ext) (latched _))

theorem ctsEvent_headLocked (l : Bool) : HeadLocked e ((ctsEvent ch l s).chan ch) := by
  have moved := setChan_headLocked s ch { s.chan ch with ctsPin := l } h
  have latched := ite_headLocked (p := ((s.chan ch).wr15 &&& 0x20#8 != 0x00#8) = true) (latchExternal_headLocked moved) moved
  unfold ctsEvent
  dsimp only
  exact ite_headLocked moved (ite_headLocked latched (txKick_headLocked latched))

theorem dcdEvent_headLocked (l : Bool) : HeadLocked e ((dcdEvent ch l s).chan ch) := by
  have moved := setChan_headLocked s ch { s.chan ch with dcdPin := l } h
  unfold dcdEvent
  dsimp only
  exact ite_headLocked moved (ite_headLocked (latchExternal_headLocked moved) moved)

/-! ### The register writes -/

theorem commandResetExtStatus_headLocked : HeadLocked e ((commandResetExtStatus ch s).chan ch) := by
  have cleared := clear_headLocked h ch .ext
  have latch (v : Byte) (l : Bool) := setChan_headLocked (clear ch .ext s) ch
    { (clear ch .ext s).chan ch with extSnap := v, extLatched := l } cleared
  unfold commandResetExtStatus
  dsimp only
  exact ite_headLocked (ite_headLocked (ite_headLocked (trigger_headLocked (latch _ true) ch .ext) (latch _ true))
    (latch _ false)) cleared

/-- Every command but the error reset keeps a locked entry (R206). -/
theorem keepingCommands_headLocked : ∀ c ∈ keepingCommands ch, HeadLocked e ((c s).chan ch) := by
  have pointed : HeadLocked e ((commandPointHigh s).chan ch) := by
    unfold commandPointHigh
    split
    · rwa [setCtl_chan]
    · exact h
  have disarmed : HeadLocked e ((commandResetTxInt ch s).chan ch) := by
    rw [commandResetTxInt, setChan_chan, clear_chan]
    exact h
  have released : HeadLocked e ((commandResetHighestIus s).chan ch) := by
    rwa [commandResetHighestIus, resetHighestIus_chan]
  simp only [keepingCommands, List.forall_mem_cons]
  exact ⟨h, pointed, commandResetExtStatus_headLocked h, h, setChan_headLocked s ch _ h, disarmed, released, nofun⟩

theorem wr0Effects_headLocked {c : State → State} (hc : c ∈ keepingCommands ch) (v : Byte) :
    HeadLocked e ((wr0Effects c v s).chan ch) := by
  rw [wr0Effects, wr0CrcReset_eq]
  exact keepingCommands_headLocked (by rwa [wr0Pointer_chan]) c hc

/-- A WR0 write whose command is not 110 (R206). -/
theorem writeWr0_headLocked {v : Byte} (hc : wr0CommandCode v ≠ 0b110#3) : HeadLocked e ((writeWr0 ch v s).chan ch) := by
  have kept := keepingCommands_headLocked (s := wr0Pointer v s) (by rwa [wr0Pointer_chan])
  rw [writeWr0, wr0Effects, wr0CrcReset_eq, wr0Command]
  split
  case h_7 code => exact absurd (BitVec.eq_of_toNat_eq code) hc
  all_goals exact kept _ (by simp [keepingCommands])

theorem writeWr3_headLocked (v : Byte) : HeadLocked e ((writeWr3 ch v s).chan ch) := by
  refine setChan_headLocked s ch _ ?_
  split <;> split <;> exact h

theorem writeWr4_headLocked (v : Byte) : HeadLocked e ((writeWr4 ch v s).chan ch) := by
  unfold writeWr4
  dsimp only
  exact ite_headLocked h (setChan_headLocked s ch _ (by rw [rateUpdate_frame]; exact h))

theorem writeWr5_headLocked (v : Byte) : HeadLocked e ((writeWr5 ch v s).chan ch) := by
  unfold writeWr5
  dsimp only
  exact ite_headLocked h (txKick_headLocked (setChan_headLocked s ch _ (by rw [wr5Rts_eq, wr5Txd_eq]; exact h)))

theorem writeWr14_headLocked (v : Byte) : HeadLocked e ((writeWr14 ch v s).chan ch) := by
  refine setChan_headLocked s ch _ ?_
  rw [dpllCommand_eq, wr14Rate]
  split
  · split
    · rw [rateUpdate_frame]; exact h
    · exact h
  · split <;> exact h

/-- The writes of the channel's registers other than WR0 and WR9. -/
theorem regWrite_own_headLocked {n : BitVec 4} (h0 : n ≠ 0#4) (h9 : n ≠ 9#4) (v : Byte) :
    HeadLocked e ((regWrite ch n v s).chan ch) := by
  revert h0 h9
  induction n using forall_reg <;> intro h0 h9
  case h0 => exact absurd rfl h0
  case h2 => exact (setCtl_chan s _ ch).symm ▸ h
  case h3 => exact writeWr3_headLocked h v
  case h4 => exact writeWr4_headLocked h v
  case h5 => exact writeWr5_headLocked h v
  case h7 =>
    refine setChan_headLocked s ch _ ?_
    split <;> exact h
  case h8 => exact dataWrite_headLocked h v
  case h9 => exact absurd rfl h9
  case h12 | h13 => exact setChan_headLocked s ch _ (by rw [rateUpdate_frame]; exact h)
  case h14 => exact writeWr14_headLocked h v
  all_goals exact setChan_headLocked s ch _ h

theorem regRead_headLocked (n : BitVec 4) : HeadLocked e ((regRead ch n s).2.chan ch) := by
  obtain k | ⟨-, k⟩ | ⟨-, -, -, -, i, -, k⟩ := regRead_cases ch n s <;> rw [k]
  · exact h
  · exact dataRead_headLocked h
  · rwa [acknowledge, setSlot_chan]

theorem channelReset_headLocked {k : ChanId} (hk : k ≠ ch) (v : Byte) :
    HeadLocked e ((channelReset k (storeWr9 v s)).chan ch) := by
  obtain rfl := ChanId.eq_other_of_ne hk
  rwa [channelReset_chan_other, storeWr9, setCtl_chan]

/-- A WR9 write that does not reset the channel (R216). -/
theorem writeWr9_headLocked {v : Byte} (hw : wr9ResetCode v ≠ 0b11#2) (hc : wr9ResetCode v ≠ channelResetCode ch) :
    HeadLocked e ((writeWr9 v s).chan ch) := by
  rw [writeWr9]
  obtain k | k | k | k := bitVec2_cases (wr9ResetCode v) <;> rw [k] at hw hc ⊢
  · exact (setCtl_chan s _ ch).symm ▸ h
  · exact channelReset_headLocked h (fun e => hc (e ▸ rfl)) v
  · exact channelReset_headLocked h (fun e => hc (e ▸ rfl)) v
  · exact absurd rfl hw

/-- A register write through channel `k`: neither an error reset nor a reset of the channel. -/
theorem regWrite_headLocked {k : ChanId} {n : BitVec 4} {v : Byte}
    (h0 : k = ch → n = 0#4 → wr0CommandCode v ≠ 0b110#3)
    (h9 : n = 9#4 → wr9ResetCode v ≠ 0b11#2 ∧ wr9ResetCode v ≠ channelResetCode ch) :
    HeadLocked e ((regWrite k n v s).chan ch) := by
  by_cases nine : n = 9#4
  · subst nine
    exact writeWr9_headLocked h (h9 rfl).1 (h9 rfl).2
  by_cases same : k = ch
  · subst same
    by_cases zero : n = 0#4
    · subst zero
      exact writeWr0_headLocked h (h0 rfl rfl)
    · exact regWrite_own_headLocked h zero nine v
  · obtain rfl := ChanId.eq_other_of_ne same
    rwa [(regWrite_channelEffect k nine v s).frame.2]

/-! ### Every operation -/

/-- A bus word: the access it comes to is neither an error reset nor a reset of the channel. -/
theorem BusOutcome.headLocked {a : Option RegAccess} {o : Host.Outcome State Fault Refusal} {t : State}
    (hb : BusOutcome s a o) (h0 : ∀ v, a = some (.write ch 0#4 v) → wr0CommandCode v ≠ 0b110#3)
    (h9 : ∀ k v, a = some (.write k 9#4 v) → wr9ResetCode v ≠ 0b11#2 ∧ wr9ResetCode v ≠ channelResetCode ch)
    (ho : o = .next t) : HeadLocked e (t.chan ch) := by
  have ported (data : Bool) : HeadLocked e ((portState data s).chan ch) := by rwa [portState_chan]
  cases hb with
  | declined r => cases ho; rwa [respond_chan]
  | write data k n v =>
    rw [done_next ho, respond_chan]
    exact regWrite_headLocked (ported data) (fun hk hn => h0 v (by rw [hk, hn])) fun hn => h9 k v (by rw [hn])
  | read data k n =>
    rw [answer_next ho, respond_chan]
    by_cases same : k = ch
    · subst same; exact regRead_headLocked (ported data) n
    · obtain rfl := ChanId.eq_other_of_ne same
      rw [(regRead_channelEffect k n _).frame.2]
      exact ported data

/-- An operation that names the channel, the error reset apart. -/
theorem exec_named_headLocked {i : Instr} {t : State} (hi : namedChannel i = some ch) (he : ¬ IsErrorReset s ch i)
    (hx : exec i s = .next t) : HeadLocked e (t.chan ch) := by
  have write : ∀ n v, wordAccess i = some (.write ch n v) → n ≠ 0#4 → n ≠ 9#4 → HeadLocked e (t.chan ch) :=
    fun n v w h0 h9 => by
      rw [done_next ((exec_of_wordWrite w h0 h9 s).symm.trans hx), respond_chan]
      exact regWrite_own_headLocked h h0 h9 v
  have read : ∀ n, wordAccess i = some (.read ch n) → HeadLocked e (t.chan ch) := fun n w => by
    rw [answer_next ((exec_of_wordRead w s).symm.trans hx), respond_chan]
    exact regRead_headLocked h n
  have completed : ∀ u : State, t = u.respond .nothing → HeadLocked e (u.chan ch) → HeadLocked e (t.chan ch) :=
    fun u ht hu => by rwa [ht, respond_chan]
  cases i <;> cases hi
  case wr0ErrorReset v => exact absurd (.inl ⟨v, rfl⟩) he
  case wr0Null | wr0PointHigh | wr0ResetExtStatus | wr0SendAbort | wr0EnableIntNextRx | wr0ResetTxInt | wr0ResetHighestIus =>
    exact completed _ (done_next hx) (wr0Effects_headLocked h (by simp [keepingCommands]) _)
  case wr1 | wr2 | wr3 | wr4 | wr5 | wr6 | wr7 | wr8 | wr10 | wr11 | wr12 | wr13 | wr14DpllNull | wr14DpllEnterSearch
    | wr14DpllResetMissingClock | wr14DpllDisable | wr14DpllSourceBrg | wr14DpllSourceRtxc | wr14DpllFmMode | wr14DpllNrziMode
    | wr15 => exact write _ _ rfl (by decide) (by decide)
  case txc => exact completed _ (execTxc_next hx) (txClockEdge_headLocked h)
  case rxc => exact completed _ (execRxc_next hx) (rxClockEdge_headLocked h)
  case cts l => exact completed _ (done_next hx) (ctsEvent_headLocked h l)
  case dcd l => exact completed _ (done_next hx) (dcdEvent_headLocked h l)
  case rxd | sync | ri => exact completed _ (done_next hx) (setChan_headLocked s ch _ h)
  all_goals exact read _ rfl

/-- A word that names no channel: a WR9 write, a controller operation or a bus word. -/
theorem exec_unnamed_headLocked {i : Instr} {t : State} (hi : namedChannel i = none) (he : ¬ IsErrorReset s ch i)
    (hr : ¬ ResetsChannel s ch i) (hx : exec i s = .next t) : HeadLocked e (t.chan ch) := by
  have bus (hb : BusOutcome s (accessOf s i) (exec i s)) : HeadLocked e (t.chan ch) := by
    refine hb.headLocked h (fun v ha hc => he (.inr ⟨v, ha, hc⟩)) (fun k v ha => ⟨fun hc => ?_, fun hc => ?_⟩) hx
    · exact hr (.inl (.inr (.inr ⟨k, v, ha, hc⟩)))
    · exact hr (.inr (.inr ⟨k, v, ha, by cases ch <;> exact hc⟩))
  have completed : ∀ (u : State) r, t = u.respond r → HeadLocked e (u.chan ch) → HeadLocked e (t.chan ch) :=
    fun u r ht hu => by rwa [ht, respond_chan]
  cases i <;> cases hi
  case wr9NoReset k v => exact completed _ _ (done_next hx) ((setCtl_chan s _ ch).symm ▸ h)
  case wr9ResetB k v =>
    have other : ChanId.b ≠ ch := fun hc => hr (.inr (.inl ⟨k, v, .inr ⟨hc.symm, rfl⟩⟩))
    exact completed _ _ (done_next hx) (channelReset_headLocked h other v)
  case wr9ResetA k v =>
    have other : ChanId.a ≠ ch := fun hc => hr (.inr (.inl ⟨k, v, .inl ⟨hc.symm, rfl⟩⟩))
    exact completed _ _ (done_next hx) (channelReset_headLocked h other v)
  case wr9HwReset k v => exact absurd (.inl (.inr (.inl ⟨k, v, rfl⟩))) hr
  case irqState => cases hx; rwa [respond_chan]
  case irqAck => cases hx; rwa [respond_chan, irqAcknowledge_chan]
  case reti => exact completed s _ (done_next hx) h
  case reset => exact absurd (.inl (.inl rfl)) hr
  case busZbusW o v => exact bus (busOutcome_of_zbusWrite o v s)
  case busZbusR o => exact bus (busOutcome_of_zbusRead o s)
  all_goals exact bus (busOutcome_of_port rfl s)

/-- An operation that is neither an error reset nor a reset of the channel (R523). -/
theorem exec_headLocked {i : Instr} {t : State} (he : ¬ IsErrorReset s ch i) (hr : ¬ ResetsChannel s ch i)
    (hx : exec i s = .next t) : HeadLocked e (t.chan ch) := by
  cases hi : namedChannel i with
  | none => exact exec_unnamed_headLocked h hi he hr hx
  | some k =>
    by_cases same : k = ch
    · subst same; exact exec_named_headLocked h hi he hx
    · obtain rfl := ChanId.eq_other_of_ne same
      rwa [exec_named_other_chan hi hx]

end Operations

/-! ### The data read -/

/-- The special-condition mask of R300 selects an error byte by its bits. -/
theorem isSpecial_eq_true {wr1 err : Byte} :
    isSpecial wr1 err = true ↔ err &&& (0x60#8 ||| (if wr1.getLsbD 2 then 0x10#8 else 0x00#8)) ≠ 0x00#8 := bne_iff_ne

theorem dataRead_of_empty {ch : ChanId} {s : State} (h : (s.chan ch).rxq = []) : dataRead ch s = (0x00#8, s) := by
  simp only [dataRead, h]

/-- Settles O28: the three outcomes of R300 by its branches, and `exec_headLocked` for the locked FIFO. -/
theorem dataReadPopsOrLocks : Obligations.DataReadPopsOrLocks := by
  refine ⟨fun ch s => ⟨fun empty => congrArg answer (dataRead_of_empty empty), fun d err rest hq => ?_⟩,
    fun i s t ch e rest he hr hx locked head => exec_headLocked ⟨locked, rest, head⟩ he hr hx⟩
  show answer (dataRead ch s) = _
  simp only [dataRead, hq, Bool.or_eq_true, isSpecial_eq_true, rxMode, rxModeDisabled, List.isEmpty_iff]
  rw [← apply_ite (Prod.mk d)]
  rfl

end Sys2Proof.Machine

/-! ## The serial loop

A frame delivered on RxD, `mult` receive clock edges a bit, is one assembler step a bit (`runOps_rxbits`); the steps of a frame's
parts give the character (`deliver` and the lemmas on it). -/

namespace Sys2Proof.Machine

open Sys2Proof.Claims

/-! ### Operations in a row -/

theorem runOps_cons {i : Instr} {s t : State} (h : exec i s = .next t) (rest : List Instr) :
    runOps (i :: rest) s = runOps rest t := by
  simp only [runOps, h]

theorem runOps_append {xs : List Instr} {s t : State} (h : runOps xs s = .next t) (ys : List Instr) :
    runOps (xs ++ ys) s = runOps ys t := by
  induction xs generalizing s with
  | nil => cases h; rfl
  | cons i rest ih =>
    rw [runOps] at h
    split at h
    · next u hu => rw [List.cons_append, runOps_cons hu]; exact ih h
    · cases h
    · cases h

/-! ### No receive step reads the response -/

section Respond
variable (s : State) (r : Response) (ch : ChanId)

@[simp] theorem receiveData_respond (d err : Byte) :
    receiveData ch d err (s.respond r) = (receiveData ch d err s).respond r := by
  simp only [receiveData, respond_chan, respond_cfg, respond_setChan, trigger_respond, ite_respond]

@[simp] theorem rxBitStep_respond : rxBitStep ch (s.respond r) = (rxBitStep ch s).respond r := by
  have hc := respond_chan s r ch
  cases gated : rxGated (s.chan ch)
  case true => rw [rxBitStep_of_gated (hc ▸ gated), rxBitStep_of_gated gated, hc, respond_setChan]
  cases hx : (s.chan ch).rxs with
  | idle =>
    rw [rxBitStep_of_idle (hc ▸ gated) (hc ▸ hx), rxBitStep_of_idle gated hx, hc, respond_setChan, ite_respond]
  | data k acc => rw [rxBitStep_of_data (hc ▸ gated) (hc ▸ hx), rxBitStep_of_data gated hx, hc, respond_setChan]
  | parity acc => rw [rxBitStep_of_parity (hc ▸ gated) (hc ▸ hx), rxBitStep_of_parity gated hx, hc, respond_setChan]
  | stop acc perr =>
    rw [rxBitStep_of_stop (hc ▸ gated) (hc ▸ hx), rxBitStep_of_stop gated hx, hc, respond_setChan, receiveData_respond]

end Respond

/-! ### One bit -/

/-- One bit of a frame: the level is put on RxD and the assembler steps (R346, R325). -/
def deliver (ch : ChanId) (s : State) (l : Bool) : State :=
  rxBitStep ch (s.setChan ch { s.chan ch with rxdPin := l })

/-- The receiver is ready for the `m` edges of a bit: in an asynchronous mode, not gated, its divisor count at 0. -/
structure ReceiverReady (m : Nat) (ch : ChanId) (s : State) : Prop where
  clocked : Clocked s ch
  live : rxGated (s.chan ch) = false
  count : (s.chan ch).rxDiv = 0
  edges : mult (s.chan ch).wr4 = m

@[simp] theorem deliver_respond (s : State) (r : Response) (ch : ChanId) (l : Bool) :
    deliver ch (s.respond r) l = (deliver ch s l).respond r := by
  simp only [deliver, respond_chan, respond_setChan, rxBitStep_respond]

theorem completes_respond (s : State) (r : Response) : completes (s.respond r) = completes s := rfl

/-- An edge before the `mult`-th counts (R326). -/
theorem exec_rxc_of_counting {ch : ChanId} {s : State} (clocked : Clocked s ch)
    (h : (s.chan ch).rxDiv + 1 < mult (s.chan ch).wr4) :
    exec (.rxc ch) (s.respond .nothing) =
      completes (s.setChan ch { s.chan ch with rxDiv := (s.chan ch).rxDiv + 1 }) := by
  rw [exec_rxc_of_clocked (by rwa [Clocked, respond_chan]), rxClockEdge_of_counting (by rwa [respond_chan]), respond_chan,
    respond_setChan, completes_respond]

theorem runOps_rxc_counting {ch : ChanId} (n : Nat) {s : State} (clocked : Clocked s ch)
    (h : (s.chan ch).rxDiv + n < mult (s.chan ch).wr4) :
    runOps (List.replicate n (.rxc ch)) (s.respond .nothing) =
      completes (s.setChan ch { s.chan ch with rxDiv := (s.chan ch).rxDiv + n }) := by
  induction n generalizing s with
  | zero => exact congrArg completes (setChan_self s ch).symm
  | succ n ih =>
    rw [List.replicate_succ, runOps_cons (exec_rxc_of_counting clocked (by omega)),
      ih (by rwa [Clocked, setChan_chan]) (by rw [setChan_chan]; dsimp only; omega), setChan_chan, setChan_setChan]
    dsimp only
    rw [Nat.add_right_comm, Nat.add_assoc]

/-- The edges of a bit step the assembler once (R326). -/
theorem runOps_rxcs {m : Nat} {ch : ChanId} {s : State} (h : ReceiverReady m ch s) :
    runOps (List.replicate m (.rxc ch)) (s.respond .nothing) = completes (rxBitStep ch s) := by
  obtain ⟨clocked, live, count, rfl⟩ := h
  obtain ⟨n, hn⟩ : ∃ n, mult (s.chan ch).wr4 = n + 1 := Nat.exists_eq_succ_of_ne_zero (mult_pos _).ne'
  have restarted : s.setChan ch { s.chan ch with rxDiv := 0 } = s := by rw [← count]; exact setChan_self s ch
  have last : exec (.rxc ch) ((s.setChan ch { s.chan ch with rxDiv := (s.chan ch).rxDiv + n }).respond .nothing) =
      completes (rxBitStep ch s) := by
    rw [exec_rxc_of_clocked (by rwa [Clocked, respond_chan, setChan_chan]),
      rxClockEdge_of_due (by rw [respond_chan, setChan_chan]; dsimp only; omega), respond_chan, setChan_chan,
      respond_setChan, setChan_setChan, restarted, rxBitStep_respond, completes_respond]
  rw [hn, List.replicate_succ', runOps_append (runOps_rxc_counting n clocked (by omega)), runOps_single _ _ last]
  rfl

/-- RxD alone may have moved. -/
theorem ReceiverReady.setPin {m : Nat} {ch : ChanId} {s : State} (h : ReceiverReady m ch s) (l : Bool) :
    ReceiverReady m ch (s.setChan ch { s.chan ch with rxdPin := l }) := by
  obtain ⟨clocked, live, count, edges⟩ := h
  constructor
  · rwa [Clocked, setChan_chan]
  all_goals rwa [setChan_chan]

/-- The level and then the edges of a bit deliver it (R121). -/
theorem runOps_rxbit {m : Nat} {ch : ChanId} {s : State} (h : ReceiverReady m ch s) (l : Bool) :
    runOps (rxbit ch l m) s = completes (deliver ch s l) := by
  have pin : exec (.rxd ch l) s = .next ((s.setChan ch { s.chan ch with rxdPin := l }).respond .nothing) := rfl
  rw [rxbit, runOps_cons pin, runOps_rxcs (h.setPin l)]
  rfl

/-! ### The bits of a frame in a row -/

/-- A bit step reaches the assembler, the receive FIFO and the first-character arm alone (R325, R327). -/
theorem rxBitStep_chan (ch : ChanId) (s : State) :
    ∃ x q armed, (rxBitStep ch s).chan ch = { s.chan ch with rxs := x, rxq := q, rxFirstArmed := armed } := by
  cases gated : rxGated (s.chan ch)
  case true => rw [rxBitStep_of_gated gated]; exact ⟨_, _, _, setChan_chan ..⟩
  cases hx : (s.chan ch).rxs with
  | idle =>
    rw [rxBitStep_of_idle gated hx]
    split
    · exact ⟨_, _, _, rfl⟩
    · exact ⟨_, _, _, setChan_chan ..⟩
  | data k acc => rw [rxBitStep_of_data gated hx]; exact ⟨_, _, _, setChan_chan ..⟩
  | parity acc => rw [rxBitStep_of_parity gated hx]; exact ⟨_, _, _, setChan_chan ..⟩
  | stop acc perr =>
    rw [rxBitStep_of_stop gated hx]
    obtain ⟨armed, h⟩ := receiveData_chan ch acc (rxErrorByte perr (s.chan ch).rxdPin)
      (s.setChan ch { s.chan ch with rxs := .idle })
    rw [h, setChan_chan]
    exact ⟨_, _, armed, rfl⟩

/-- A delivered bit leaves the receiver ready for the next. -/
theorem ReceiverReady.deliver {m : Nat} {ch : ChanId} {s : State} (h : ReceiverReady m ch s) (l : Bool) :
    ReceiverReady m ch (deliver ch s l) := by
  obtain ⟨x, q, armed, hc⟩ := rxBitStep_chan ch (s.setChan ch { s.chan ch with rxdPin := l })
  rw [setChan_chan] at hc
  have clocked := h.clocked
  constructor
  · rwa [Clocked, Machine.deliver, hc]
  · rw [Machine.deliver, hc]; exact h.live
  · rw [Machine.deliver, hc]; exact h.count
  · rw [Machine.deliver, hc]; exact h.edges

theorem ReceiverReady.respond {m : Nat} {ch : ChanId} {s : State} (h : ReceiverReady m ch s) (r : Response) :
    ReceiverReady m ch (s.respond r) := by
  have hc := respond_chan s r ch
  exact ⟨by rw [Clocked, hc]; exact h.clocked, hc ▸ h.live, hc ▸ h.count, hc ▸ h.edges⟩

/-- The bits of a frame are assembler steps (R121). -/
theorem runOps_rxbits {m : Nat} {ch : ChanId} (bits : List Bool) {s : State} (h : ReceiverReady m ch s) :
    runOps (bits.flatMap fun l => rxbit ch l m) (s.respond .nothing) = completes (bits.foldl (deliver ch) s) := by
  induction bits generalizing s with
  | nil => rfl
  | cons l bits ih =>
    have bit := runOps_rxbit (h.respond .nothing) l
    rw [deliver_respond, completes_respond] at bit
    rw [List.flatMap_cons, runOps_append bit, ih (h.deliver l), List.foldl_cons]

theorem runOps_rxbits_cons {m : Nat} {ch : ChanId} (l : Bool) (bits : List Bool) {s : State} (h : ReceiverReady m ch s) :
    runOps ((l :: bits).flatMap fun l => rxbit ch l m) s = completes ((l :: bits).foldl (deliver ch) s) := by
  rw [List.flatMap_cons, runOps_append (runOps_rxbit h l), runOps_rxbits bits (h.deliver l), List.foldl_cons]

/-! ### The low bits of a character -/

/-- The low `k` bits of a byte. -/
def lowBits (b : Byte) (k : Nat) : Byte := b &&& (0xFF#8 >>> (8 - k))

theorem lowBits_getLsbD (b : Byte) {k : Nat} (hk : k ≤ 8) (i : Nat) :
    (lowBits b k).getLsbD i = (decide (i < k) && b.getLsbD i) := by
  rw [lowBits, BitVec.getLsbD_and, show (0xFF#8) = BitVec.allOnes 8 from rfl, BitVec.getLsbD_ushiftRight,
    BitVec.getLsbD_allOnes, Bool.and_comm]
  exact congrArg (· && b.getLsbD i) (decide_eq_decide.mpr (by omega))

theorem lowBits_zero (b : Byte) : lowBits b 0 = 0x00#8 := by
  apply BitVec.eq_of_getLsbD_eq
  intro i hi
  rw [lowBits_getLsbD b (Nat.zero_le 8)]
  simp

/-- The next bit in its place (R325). -/
theorem lowBits_succ (b : Byte) {k : Nat} (hk : k < 8) :
    lowBits b k ||| (zext (b.getLsbD k) <<< k) = lowBits b (k + 1) := by
  apply BitVec.eq_of_getLsbD_eq
  intro i hi
  rw [BitVec.getLsbD_or, lowBits_getLsbD b hk.le, lowBits_getLsbD b hk, zext_shiftLeft_getLsbD _ _ hi]
  obtain below | rfl | above := Nat.lt_trichotomy i k
  · simp [below, below.ne, Nat.lt_succ_of_lt below]
  · simp
  · have past : ¬ i < k + 1 := by omega
    simp [above.ne', above.not_gt, past]

/-- Parity looks at the low bits alone (R312, R325). -/
theorem parityBit_lowBits (wr4 b : Byte) {k : Nat} (hk : k ≤ 8) : parityBit wr4 (lowBits b k) k = parityBit wr4 b k := by
  have same : (List.range k).filter (fun i => (lowBits b k).getLsbD i) = (List.range k).filter fun i => b.getLsbD i :=
    List.filter_congr fun i hi => by rw [lowBits_getLsbD b hk, decide_eq_true (List.mem_range.mp hi), Bool.true_and]
  rw [parityBit_eq, parityBit_eq, xorBits_eq_odd, xorBits_eq_odd, same]

/-! ### The parts of a frame -/

/-- In the middle of a character: the last bit on RxD, and the assembler's state. -/
def assembling (ch : ChanId) (s : State) (l : Bool) (x : RxState) : State :=
  s.setChan ch { s.chan ch with rxdPin := l, rxs := x }

section Parts
variable {ch : ChanId} {s : State} (live : rxGated (s.chan ch) = false)
include live

theorem deliver_start (hx : (s.chan ch).rxs = .idle) : deliver ch s false = assembling ch s false (.data 0 0x00#8) := by
  rw [deliver, rxBitStep_of_idle (by rw [setChan_chan]; exact live) (by rw [setChan_chan]; exact hx), setChan_chan,
    setChan_setChan]
  rfl

theorem deliver_data (p l : Bool) (k : Nat) (acc : Byte) :
    deliver ch (assembling ch s p (.data k acc)) l = assembling ch s l (
      if k + 1 = rxBits (s.chan ch).wr3 then
        if parityOn (s.chan ch).wr4 then .parity (acc ||| (zext l <<< k)) else .stop (acc ||| (zext l <<< k)) false
      else .data (k + 1) (acc ||| (zext l <<< k))) := by
  rw [deliver, assembling, setChan_chan, setChan_setChan,
    rxBitStep_of_data (k := k) (acc := acc) (by rw [setChan_chan]; exact live) (by rw [setChan_chan]), setChan_chan,
    setChan_setChan]
  rfl

theorem deliver_parity (p l : Bool) (acc : Byte) :
    deliver ch (assembling ch s p (.parity acc)) l =
      assembling ch s l (.stop acc (l != parityBit (s.chan ch).wr4 acc (rxBits (s.chan ch).wr3))) := by
  rw [deliver, assembling, setChan_chan, setChan_setChan,
    rxBitStep_of_parity (acc := acc) (by rw [setChan_chan]; exact live) (by rw [setChan_chan]), setChan_chan,
    setChan_setChan]
  rfl

/-- The first stop bit ends the character without a framing error (R325). -/
theorem deliver_stop (p : Bool) (acc : Byte) :
    deliver ch (assembling ch s p (.stop acc false)) true = receiveData ch acc 0x00#8 (assembling ch s true .idle) := by
  rw [deliver, assembling, setChan_chan, setChan_setChan,
    rxBitStep_of_stop (acc := acc) (perr := false) (by rw [setChan_chan]; exact live) (by rw [setChan_chan]), setChan_chan,
    setChan_setChan]
  exact congrArg (receiveData ch acc · _) (show rxErrorByte false true = 0x00#8 by decide)

/-- A mark on an idle receiver whose RxD is at mark changes nothing: the second stop bit (R325). -/
theorem deliver_mark (hx : (s.chan ch).rxs = .idle) (hp : (s.chan ch).rxdPin = true) : deliver ch s true = s := by
  have held : s.setChan ch { s.chan ch with rxdPin := true } = s := by rw [← hp]; exact setChan_self s ch
  rw [deliver, held, rxBitStep_of_idle live hx, if_pos hp]

/-- The data bits but the last (R325). -/
theorem deliver_dataBits (b : Byte) {k : Nat} (hk : k < rxBits (s.chan ch).wr3) :
    ∃ p, (dataBits b k).foldl (deliver ch) (assembling ch s false (.data 0 0x00#8)) =
      assembling ch s p (.data k (lowBits b k)) := by
  induction k with
  | zero => exact ⟨false, by rw [lowBits_zero]; rfl⟩
  | succ k ih =>
    obtain ⟨p, hp⟩ := ih (Nat.lt_of_succ_lt hk)
    have small : k < 8 := by have := wordLength_le ((s.chan ch).wr3.extractLsb' 6 2); unfold rxBits at hk; omega
    refine ⟨b.getLsbD k, ?_⟩
    rw [dataBits, List.range_succ, List.map_append, List.foldl_append, ← dataBits, hp]
    simp only [List.map_cons, List.map_nil, List.foldl_cons, List.foldl_nil]
    rw [deliver_data live, if_neg hk.ne, lowBits_succ b small]

/-- The data bits of a frame and the parity bit it may have leave the assembler at the stop bit, without a parity error. -/
theorem deliver_character (b : Byte) (hx : (s.chan ch).rxs = .idle) {k : Nat} (hk : rxBits (s.chan ch).wr3 = k) :
    ∃ p, (false :: (dataBits b k ++ parityPart (s.chan ch).wr4 b k)).foldl (deliver ch) s =
      assembling ch s p (.stop (lowBits b k) false) := by
  have small : k ≤ 8 := hk ▸ wordLength_le _
  obtain ⟨j, rfl⟩ : ∃ j, k = j + 1 := Nat.exists_eq_succ_of_ne_zero (hk ▸ (wordLength_pos _).ne')
  obtain ⟨p, hp⟩ := deliver_dataBits live b (show j < rxBits (s.chan ch).wr3 by omega)
  rw [List.foldl_cons, deliver_start live hx, List.foldl_append, dataBits, List.range_succ, List.map_append,
    List.foldl_append, ← dataBits, hp]
  simp only [List.map_cons, List.map_nil, List.foldl_cons, List.foldl_nil]
  rw [deliver_data live, if_pos hk.symm, lowBits_succ b (by omega), parityPart]
  cases parityOn (s.chan ch).wr4
  · exact ⟨_, rfl⟩
  · refine ⟨parityBit (s.chan ch).wr4 b (j + 1), ?_⟩
    rw [if_pos rfl, if_pos rfl, List.foldl_cons, List.foldl_nil, deliver_parity live, hk, parityBit_lowBits _ _ small,
      bne_self_eq_false]

/-- One or two stop bits end the character. -/
theorem deliver_stopPart (p : Bool) (acc : Byte) (wr4 : Byte) :
    (stopPart wr4).foldl (deliver ch) (assembling ch s p (.stop acc false)) =
      receiveData ch acc 0x00#8 (assembling ch s true .idle) := by
  obtain ⟨armed, hc⟩ := receiveData_chan ch acc 0x00#8 (assembling ch s true .idle)
  rw [assembling, setChan_chan, ← assembling] at hc
  have second := deliver_mark (ch := ch) (s := receiveData ch acc 0x00#8 (assembling ch s true .idle))
    (by rw [hc]; exact live) (by rw [hc]) (by rw [hc])
  unfold stopPart
  split
  · exact deliver_stop live p acc
  · rw [List.foldl_cons, deliver_stop live, List.foldl_cons, List.foldl_nil, second]

end Parts

/-- Settles O35: the bits are assembler steps, and the four parts of a frame take the assembler from idle to the character. -/
theorem receiverRecoversEveryTransmittedCharacter : Obligations.ReceiverRecoversEveryTransmittedCharacter := by
  intro ch b s
  dsimp only
  intro clocked hx count live hk
  have idle : assembling ch s true .idle = s.setChan ch { s.chan ch with rxdPin := true } := by rw [assembling, ← hx]
  obtain ⟨p, character⟩ := deliver_character live b hx hk
  rw [frame_eq, runOps_rxbits_cons _ _ ⟨clocked, live, count, rfl⟩, ← List.append_assoc, ← List.cons_append,
    List.foldl_append, character, deliver_stopPart live, idle]
  rfl

end Sys2Proof.Machine

/-! ## The interrupt arbiter -/

namespace Sys2Proof.Machine

open Sys2Proof.Claims

/-! ### The slot and its RR3 bit -/

/-- The mask of slot i is bit `5 - i` of RR3 alone (R402). -/
theorem mask_getLsbD (i : SlotId) {n : Nat} (hn : n < 6) : i.mask.getLsbD n = decide (n = 5 - i.index) := by
  cases i <;> interval_cases n <;> rfl

theorem setIpBit_getLsbD (s : State) (i : SlotId) (b : Bool) {n : Nat} (hn : n < 6) :
    (s.setIpBit i b).ctl.ipBits.getLsbD n = if n = 5 - i.index then b else s.ctl.ipBits.getLsbD n := by
  cases b
  · show (s.ctl.ipBits &&& ~~~i.mask).getLsbD n = _
    rw [BitVec.getLsbD_and, BitVec.getLsbD_not, mask_getLsbD i hn]
    split <;> simp [*]
  · show (s.ctl.ipBits ||| i.mask).getLsbD n = _
    rw [BitVec.getLsbD_or, mask_getLsbD i hn]
    split <;> simp [*]

/-- A write of slot i and of its RR3 bit, as a trigger (R404) and a clear (R405) make it, reaches nothing else. -/
theorem setSlot_setIpBit_writes (s : State) (i : SlotId) (x : Slot) (b : Bool) :
    let u := (s.setSlot i x).setIpBit i b
    u.slot i = x ∧ u.ctl.ipBits.getLsbD (5 - i.index) = b ∧
    (∀ j, j ≠ i → u.slot j = s.slot j) ∧
    (∀ n < 6, n ≠ 5 - i.index → u.ctl.ipBits.getLsbD n = s.ctl.ipBits.getLsbD n) ∧
    { u with ctl := { u.ctl with slots := s.ctl.slots, ipBits := s.ctl.ipBits } } = s := by
  refine ⟨setSlot_slot s i x, ?_, fun j hj => setSlot_slot_ne s i x hj, fun n hn other => ?_, rfl⟩
  · rw [setIpBit_getLsbD _ i b (by omega), if_pos rfl]
  · rw [setIpBit_getLsbD _ i b hn, if_neg other, setSlot_ipBits]

/-- The source a trigger records (R404): an RX trigger keeps a special condition (log entry 6). -/
theorem trigger_of_mie {s : State} (h : mie s.ctl.wr9 = true) (ch : ChanId) (t : IntType) :
    trigger ch t s =
      (s.setSlot (slotOf ch t.condition) ⟨true, (s.slot (slotOf ch t.condition)).ius,
        if t = .rx ∧ (s.slot (slotOf ch t.condition)).src = .special then .special else t.source⟩).setIpBit
          (slotOf ch t.condition) true := by
  simp only [trigger, if_pos h]
  split
  · next kept => simp only [kept.2]
  · rfl

theorem slotOf_index (ch : ChanId) (t : IntType) : (slotOf ch t.condition).index =
    (match ch with | .a => 0 | .b => 3) + (match t with | .rx | .special => 0 | .tx => 1 | .ext => 2) := by
  cases ch <;> cases t <;> rfl

/-- Settles O39: a trigger under MIE and a clear are each one write of a slot and its RR3 bit. -/
theorem triggerAndClearWriteOneSlot : Obligations.TriggerAndClearWriteOneSlot := by
  refine ⟨fun ch t s => ?_, fun ch c s => setSlot_setIpBit_writes s (slotOf ch c) _ false, slotOf_index⟩
  dsimp only
  cases h : s.ctl.wr9.getLsbD 3
  · rw [trigger_of_mie_clear h]
    exact ⟨fun _ => rfl, nofun, fun _ _ => rfl, fun _ _ _ => rfl, rfl⟩
  · rw [trigger_of_mie h]
    obtain ⟨slot, bit, others⟩ := setSlot_setIpBit_writes s (slotOf ch t.condition) _ true
    exact ⟨nofun, fun _ => ⟨slot, bit⟩, others⟩

/-! ### The state report and the acknowledge -/

/-- `blocksLower` is a slot in service or DLC (R406). -/
theorem blocksLower_eq_true {s : State} :
    blocksLower s = true ↔ (∃ i, (s.slot i).ius = true) ∨ s.ctl.wr9.getLsbD 2 = true := by
  rw [blocksLower, Bool.or_eq_true, anyInService, any_slot_eq_true]
  rfl

/-- Settles O40: the two bits reported are `irqOutput` and `blocksLower`. -/
theorem irqStateReportsAndRetiDoesNothing : Obligations.IrqStateReportsAndRetiDoesNothing :=
  ⟨fun s => ⟨irqOutput s, blocksLower s, rfl, irqOutput_eq_true, blocksLower_eq_true⟩, fun _ => rfl⟩

theorem irqAcknowledge_of_none_pending {s : State} (h : ∀ i, (s.slot i).ip = false) : irqAcknowledge s = (none, s) := by
  rw [irqAcknowledge, firstPending_eq_none.mpr h]

theorem irqAcknowledge_of_least_pending {s : State} {i : SlotId} (hi : (s.slot i).ip = true)
    (least : ∀ j : SlotId, j.index < i.index → (s.slot j).ip = false) :
    irqAcknowledge s =
      (if nv s.ctl.wr9 then none else if vis s.ctl.wr9 then some (slotVector s i) else some s.ctl.wr2, acknowledge i s) := by
  rw [irqAcknowledge, firstPending_eq_some.mpr ⟨hi, least⟩]

/-- Settles O41: the slot found is the pending one of least index, whatever is in service. -/
theorem acknowledgeTakesTheHighestPendingSlot : Obligations.AcknowledgeTakesTheHighestPendingSlot := by
  have ack (s : State) : exec .irqAck s = .next ((irqAcknowledge s).2.respond (.vector (irqAcknowledge s).1)) := rfl
  refine fun s => ⟨fun idle => ?_, fun i hi least => ?_⟩
  · rw [ack, irqAcknowledge_of_none_pending idle]
  · rw [ack, irqAcknowledge_of_least_pending hi least]
    rfl

/-! ### The vector -/

/-- The channel in bit 2, the source in bits 1 and 0 (R117). -/
theorem statusCode_getLsbD (ch : ChanId) (src : Source) {n : Nat} (hn : n < 3) :
    (statusCode ch src).getLsbD n =
      if n = 2 then decide (ch = .a)
      else if n = 1 then decide (src = .rxAvailable ∨ src = .special)
      else decide (src = .extStatus ∨ src = .special) := by
  interval_cases n <;> cases ch <;> cases src <;> rfl

theorem reverse3_getLsbD (c : BitVec 3) {n : Nat} (hn : n < 3) : (reverse3 c).getLsbD n = c.getLsbD (2 - n) := by
  revert c; interval_cases n <;> decide

/-- A code in bits 3 to 1 of the vector, status low (R414). -/
theorem stampLow_getLsbD (vec : Byte) (c : BitVec 3) {n : Nat} (hn : n < 8) :
    ((vec &&& 0xF1#8) ||| (c.setWidth 8 <<< 1)).getLsbD n =
      if 1 ≤ n ∧ n ≤ 3 then c.getLsbD (n - 1) else vec.getLsbD n := by
  interval_cases n <;> simp

/-- A code in bits 6 to 4 of the vector, status high (R414). -/
theorem stampHigh_getLsbD (vec : Byte) (c : BitVec 3) {n : Nat} (hn : n < 8) :
    ((vec &&& 0x8F#8) ||| (c.setWidth 8 <<< 4)).getLsbD n =
      if 4 ≤ n ∧ n ≤ 6 then c.getLsbD (n - 4) else vec.getLsbD n := by
  interval_cases n <;> simp

/-- Settles O42: where each position puts the code, then the bits of the code, read backwards when it is reversed. -/
theorem vectorCarriesTheStatusCode : Obligations.VectorCarriesTheStatusCode := by
  intro cfg wr9 vec ch src
  refine ⟨fun low n hn => ?_, fun high n hn => ?_⟩
  · rw [modifyVector, shsl, low, if_neg Bool.false_ne_true, stampLow_getLsbD _ _ hn]
    split
    · exact statusCode_getLsbD ch src (by omega)
    · rfl
  · rw [modifyVector, shsl, high, if_pos rfl, stampHigh_getLsbD _ _ hn]
    split
    · cases cfg.statusHighReversed
      · exact statusCode_getLsbD ch src (by omega)
      · rw [if_pos rfl, reverse3_getLsbD _ (by omega), show 2 - (n - 4) = 6 - n by omega]
        exact statusCode_getLsbD ch src (by omega)
    · rfl

end Sys2Proof.Machine

/-! ## The refusals of a step -/

namespace Sys2Proof.Machine

open Sys2Proof.Claims

/-- An operation completes, or is a clock edge of a channel in a synchronous mode (R119). -/
theorem exec_completes_or_synchronous (i : Instr) (s : State) :
    (∃ t, exec i s = .next t) ∨ ∃ ch, (i = .txc ch ∨ i = .rxc ch) ∧ isSynchronous (s.chan ch).wr4 = true := by
  cases i
  case txc ch =>
    cases h : isSynchronous (s.chan ch).wr4
    · exact .inl ⟨_, exec_txc_of_clocked h⟩
    · exact .inr ⟨ch, .inl rfl, h⟩
  case rxc ch =>
    cases h : isSynchronous (s.chan ch).wr4
    · exact .inl ⟨_, exec_rxc_of_clocked h⟩
    · exact .inr ⟨ch, .inr rfl, h⟩
  all_goals exact .inl ⟨_, rfl⟩

theorem withPending_chan (s : State) (ws : List HostWord) (ch : ChanId) : ({ s with pending := ws }).chan ch = s.chan ch := by
  cases ch <;> rfl

/-- The oldest issued word gives the reason `r` to refuse it: it is invalid (R104), or a clock edge of a channel in a synchronous
mode (R119). -/
def RefusedFor (s : State) (r : Refusal) : Prop :=
  (∃ w rest why, s.pending = w :: rest ∧ decode w = .error why ∧ r = .invalidWord why) ∨
  (∃ w rest ch, s.pending = w :: rest ∧ (decode w = .ok (.txc ch) ∨ decode w = .ok (.rxc ch)) ∧
    (s.chan ch).wr4.extractLsb' 2 2 = 0b00#2 ∧ r = .synchronousMode ch)

theorem step_of_refusedFor {s : State} {r : Refusal} (h : RefusedFor s r) : step s = .refused r := by
  obtain ⟨w, rest, why, hq, hd, rfl⟩ | ⟨w, rest, ch, hq, hd, hs, rfl⟩ := h
  · exact step_of_invalid hq hd
  · have sync : isSynchronous (({ s with pending := rest } : State).chan ch).wr4 = true := by
      rw [withPending_chan]; exact isSynchronous_eq_true.mpr hs
    obtain hd | hd := hd
    · rw [step_of_issued hq hd, exec_txc_of_synchronous sync]
    · rw [step_of_issued hq hd, exec_rxc_of_synchronous sync]

/-- A step completes unless there is a reason to refuse it. -/
theorem step_completes_or_refusedFor (s : State) : (∃ t, step s = .next t) ∨ ∃ r, RefusedFor s r := by
  cases hq : s.pending with
  | nil => exact .inl ⟨s, step_of_none_issued hq⟩
  | cons w rest =>
    cases hd : decode w with
    | error why => exact .inr ⟨_, .inl ⟨w, rest, why, hq, hd, rfl⟩⟩
    | ok i =>
      rw [step_of_issued hq hd]
      obtain completed | ⟨ch, edge, sync⟩ := exec_completes_or_synchronous i { s with pending := rest }
      · exact .inl completed
      · rw [withPending_chan] at sync
        have decoded := edge.imp (fun e : i = .txc ch => e ▸ hd) (fun e : i = .rxc ch => e ▸ hd)
        exact .inr ⟨_, .inr ⟨w, rest, ch, hq, decoded, isSynchronous_eq_true.mp sync, rfl⟩⟩

/-- Settles O6: a reason refuses the step, without one it completes, and a step has one outcome. -/
theorem stepIsRefusedOnlyForInvalidWordsAndSynchronousEdges :
    Obligations.StepIsRefusedOnlyForInvalidWordsAndSynchronousEdges := by
  refine fun s => ⟨(step_completes_or_refusedFor s).imp_right fun ⟨r, h⟩ => ⟨r, step_of_refusedFor h⟩,
    fun r => ⟨fun refused => ?_, step_of_refusedFor⟩⟩
  obtain ⟨t, completed⟩ | ⟨r', h⟩ := step_completes_or_refusedFor s
  · cases completed.symm.trans refused
  · cases (step_of_refusedFor h).symm.trans refused
    exact h

end Sys2Proof.Machine

/-! ## An operation and its access

`Operation s i u` ties what a completed operation makes of `s`, the response apart, to the register access `accessOf s i`: the
statements that speak of an access on any path are case analyses of it. -/

namespace Sys2Proof.Machine

open Sys2Proof.Claims

@[simp] theorem portState_wr2 (data : Bool) (s : State) : (portState data s).ctl.wr2 = s.ctl.wr2 := by cases data <;> rfl
@[simp] theorem portState_wr9 (data : Bool) (s : State) : (portState data s).ctl.wr9 = s.ctl.wr9 := by cases data <;> rfl
@[simp] theorem portState_slot (data : Bool) (s : State) (i : SlotId) : (portState data s).slot i = s.slot i := by
  cases data <;> rfl

/-- The three effects of a WR9 write: the store, alone or with a channel reset, and the forced hardware reset (R216). -/
inductive Wr9Effect (v : Byte) (s : State) : State → Prop
  | store : Wr9Effect v s (storeWr9 v s)
  | channelReset (ch : ChanId) : Wr9Effect v s (channelReset ch (storeWr9 v s))
  | hardwareReset : Wr9Effect v s (wr9HwReset v s)

theorem writeWr9_wr9Effect (v : Byte) (s : State) : Wr9Effect v s (writeWr9 v s) := by
  unfold writeWr9
  split
  · exact .store
  · exact .channelReset .b
  · exact .channelReset .a
  · exact .hardwareReset

/-- What a completed operation makes of `s`: the WR0 command, the WR9 effect, the register write or the register read of its
access, from the state its port leaves; with no access a change within one channel or none at all, the acknowledge, or the reset
pin. -/
inductive Operation (s : State) : Instr → State → Prop
  | command {i : Instr} {ch : ChanId} {v : Byte} {c : State → State} (data : Bool)
      (ha : accessOf s i = some (.write ch 0#4 v)) (hc : c ∈ wr0Commands ch) :
      Operation s i (wr0Effects c v (portState data s))
  | wr9 {i : Instr} {ch : ChanId} {v : Byte} {u : State} (data : Bool)
      (ha : accessOf s i = some (.write ch 9#4 v)) (hu : Wr9Effect v (portState data s) u) : Operation s i u
  | write {i : Instr} {ch : ChanId} {n : BitVec 4} {v : Byte} (data : Bool)
      (ha : accessOf s i = some (.write ch n v)) (h0 : n ≠ 0#4) (h9 : n ≠ 9#4) :
      Operation s i (regWrite ch n v (portState data s))
  | read {i : Instr} {ch : ChanId} {n : BitVec 4} (data : Bool) (ha : accessOf s i = some (.read ch n)) :
      Operation s i (regRead ch n (portState data s)).2
  | event {i : Instr} {ch : ChanId} {u : State} (ha : accessOf s i = none) (hu : ChannelOnly ch s u) : Operation s i u
  | acknowledge : Operation s .irqAck (irqAcknowledge s).2
  | reset : Operation s .reset (hardwareReset false s)

/-- A register write on any path is the command, the WR9 effect or the write of its register. -/
theorem regWrite_operation {s : State} {i : Instr} {ch : ChanId} {n : BitVec 4} {v : Byte} (data : Bool)
    (ha : accessOf s i = some (.write ch n v)) : Operation s i (regWrite ch n v (portState data s)) := by
  by_cases h0 : n = 0#4
  · subst h0
    obtain ⟨c, hc, written⟩ := writeWr0_cases ch v (portState data s)
    have command := Operation.command data ha hc
    rwa [wr0Effects, wr0CrcReset_eq, ← written] at command
  by_cases h9 : n = 9#4
  · subst h9
    exact .wr9 data ha (writeWr9_wr9Effect v _)
  · exact .write data ha h0 h9

theorem BusOutcome.operation {s t : State} {i : Instr} {a : Option RegAccess} {o : Host.Outcome State Fault Refusal}
    (h : BusOutcome s a o) (ha : accessOf s i = a) (ho : o = .next t) : ∃ u r, Operation s i u ∧ t = u.respond r := by
  cases h with
  | declined r => cases ho; exact ⟨s, r, .event ha (.refl .a s), rfl⟩
  | write data ch n v => exact ⟨_, _, regWrite_operation data ha, done_next ho⟩
  | read data ch n => exact ⟨_, _, .read data ha, answer_next ho⟩

/-- Every completed operation is one of these. -/
theorem exec_operation {i : Instr} {s t : State} (h : exec i s = .next t) : ∃ u r, Operation s i u ∧ t = u.respond r := by
  have write {ch n v} (ha : accessOf s i = some (.write ch n v)) (hw : wordAccess i = some (.write ch n v))
      (h0 : n ≠ 0#4) (h9 : n ≠ 9#4) : ∃ u r, Operation s i u ∧ t = u.respond r :=
    ⟨_, _, .write true ha h0 h9, done_next ((exec_of_wordWrite hw h0 h9 s).symm.trans h)⟩
  cases i
  case wr0Null | wr0PointHigh | wr0ResetExtStatus | wr0SendAbort | wr0EnableIntNextRx | wr0ResetTxInt | wr0ErrorReset
    | wr0ResetHighestIus => exact ⟨_, _, .command true rfl (by simp), done_next h⟩
  case wr9NoReset => exact ⟨_, _, .wr9 true rfl .store, done_next h⟩
  case wr9ResetB => exact ⟨_, _, .wr9 true rfl (.channelReset .b), done_next h⟩
  case wr9ResetA => exact ⟨_, _, .wr9 true rfl (.channelReset .a), done_next h⟩
  case wr9HwReset => exact ⟨_, _, .wr9 true rfl .hardwareReset, done_next h⟩
  case rr0 | rr1 | rr2 | rr3 | rr4 | rr5 | rr6 | rr7 | rr8 | rr9 | rr10 | rr11 | rr12 | rr13 | rr14 | rr15 =>
    exact ⟨_, _, .read true rfl, answer_next ((exec_of_wordRead rfl s).symm.trans h)⟩
  case txc ch => exact ⟨_, _, .event rfl (txClockEdge_channelOnly ch s), execTxc_next h⟩
  case rxc ch => exact ⟨_, _, .event rfl (rxClockEdge_channelOnly ch s), execRxc_next h⟩
  case cts ch l => exact ⟨_, _, .event rfl (ctsEvent_channelOnly ch l s), done_next h⟩
  case dcd ch l => exact ⟨_, _, .event rfl (dcdEvent_channelOnly ch l s), done_next h⟩
  case rxd ch l | sync ch l | ri ch l => exact ⟨_, _, .event rfl (setChan_channelOnly s ch _), done_next h⟩
  case irqState => cases h; exact ⟨_, _, .event rfl (.refl .a s), rfl⟩
  case irqAck => cases h; exact ⟨_, _, .acknowledge, rfl⟩
  case reti => exact ⟨_, _, .event rfl (.refl .a s), done_next h⟩
  case reset => exact ⟨_, _, .reset, done_next h⟩
  case busZbusW o v => exact (busOutcome_of_zbusWrite o v s).operation rfl h
  case busZbusR o => exact (busOutcome_of_zbusRead o s).operation rfl h
  case busCdAbW | busCdAbR | busCdBaW | busCdBaR | busBaCdW | busBaCdR | busBaCdInvW | busBaCdInvR | busCaW | busCaR | busCbW
    | busCbR | busDaW | busDaR | busDbW | busDbR => exact (busOutcome_of_port rfl s).operation rfl h
  all_goals exact write rfl rfl (by decide) (by decide)

/-! ### The in-service marks -/

theorem hardwareReset_serviceWithin (preserveShift : Bool) (s : State) : ServiceWithin s (hardwareReset preserveShift s) :=
  fun i e => by cases i <;> cases e

theorem setSlot_serviceWithin (s : State) (i : SlotId) {x : Slot} (h : x.ius = true → (s.slot i).ius = true) :
    ServiceWithin s (s.setSlot i x) := by
  intro j hj
  by_cases e : j = i
  · subst e; exact h (by simpa using hj)
  · rwa [setSlot_slot_ne s i x e] at hj

theorem ServiceWithin.trans {s t u : State} (h : ServiceWithin s t) (k : ServiceWithin t u) : ServiceWithin s u :=
  fun i e => h i (k i e)

theorem idleSlot_serviceWithin (i : SlotId) (s : State) : ServiceWithin s (idleSlot i s) :=
  setSlot_serviceWithin s i nofun

/-- A channel reset empties slots and fills none (R503). -/
theorem channelReset_serviceWithin (ch : ChanId) (s : State) : ServiceWithin s (channelReset ch s) :=
  (((setChan_channelOnly s ch _).serviceWithin.trans (idleSlot_serviceWithin _ _)).trans
    (idleSlot_serviceWithin _ _)).trans (idleSlot_serviceWithin _ _)

theorem Wr9Effect.serviceWithin {v : Byte} {s t : State} (h : Wr9Effect v s t) : ServiceWithin s t := by
  cases h with
  | store => exact fun _ => id
  | channelReset ch => exact channelReset_serviceWithin ch (storeWr9 v s)
  | hardwareReset => exact hardwareReset_serviceWithin true s

/-- The register writes other than WR0 and WR9. -/
theorem regWrite_serviceWithin {n : BitVec 4} (h0 : n ≠ 0#4) (h9 : n ≠ 9#4) (ch : ChanId) (v : Byte) (s : State) :
    ServiceWithin s (regWrite ch n v s) := by
  by_cases h2 : n = 2#4
  · subst h2; exact fun _ => id
  · exact (regWrite_channelOnly h0 h2 h9 ch v s).serviceWithin

/-- A slot an acknowledge brings into service was in service already or is the one acknowledged (R408). -/
theorem acknowledge_ius {s : State} {i j : SlotId} (h : ((acknowledge i s).slot j).ius = true) :
    (s.slot j).ius = true ∨ j = i := by
  by_cases e : j = i
  · exact .inr e
  · rw [acknowledge, setSlot_slot_ne s i _ e] at h
    exact .inl h

theorem irqAcknowledge_ius {s : State} {j : SlotId} (h : ((irqAcknowledge s).2.slot j).ius = true) :
    (s.slot j).ius = true ∨ (s.slot j).ip = true := by
  unfold irqAcknowledge at h
  split at h
  · exact .inl h
  · next i found =>
    refine (acknowledge_ius h).imp_right fun e => ?_
    obtain ⟨pending, -⟩ := firstPending_eq_some.mp found
    exact e ▸ pending

/-- A register read brings into service only a pending slot, as the software acknowledge of R263. -/
theorem regRead_ius {ch : ChanId} {n : BitVec 4} {s : State} {j : SlotId} (h : ((regRead ch n s).2.slot j).ius = true) :
    (s.slot j).ius = true ∨
    ((s.slot j).ip = true ∧ ch = .b ∧ (n = 2#4 ∨ n = 6#4) ∧ s.cfg.isEscc = true ∧ softIack s.ctl.wr9 = true) := by
  obtain k | ⟨-, k⟩ | ⟨hch, hn, escc, soft, i, pending, k⟩ := regRead_cases ch n s <;> rw [k] at h
  · exact .inl h
  · exact .inl ((dataRead_channelOnly ch s).serviceWithin j h)
  · exact (acknowledge_ius h).imp_right fun e : j = i => ⟨e ▸ pending, hch, hn, escc, soft⟩

/-- Settles O58: of the operations only an acknowledge and a read can bring a slot into service. -/
theorem slotsEnterServiceOnlyByAcknowledge : Obligations.SlotsEnterServiceOnlyByAcknowledge := by
  intro i s t h j hj
  obtain ⟨u, r, hu, rfl⟩ := exec_operation h
  rw [respond_slot] at hj
  have ported (data : Bool) (kept : ServiceWithin (portState data s) u) : (s.slot j).ius = true := by
    simpa using kept j hj
  cases hu with
  | @command _ ch v c data ha hc =>
    obtain ⟨-, -, kept, -⟩ := wr0Effects_frame ch hc v (portState data s)
    exact .inl (ported data kept)
  | wr9 data ha hu => exact .inl (ported data hu.serviceWithin)
  | write data ha h0 h9 => exact .inl (ported data (regWrite_serviceWithin h0 h9 _ _ _))
  | read data ha =>
    have acked := regRead_ius hj
    simp only [portState_slot, portState_cfg, portState_wr9] at acked
    refine acked.imp_right fun ⟨pending, hch, hn, escc, soft⟩ => ⟨pending, .inr ⟨escc, soft, ?_⟩⟩
    subst hch
    exact hn.imp (fun e : _ = 2#4 => e ▸ ha) (fun e : _ = 6#4 => e ▸ ha)
  | event ha hu => exact .inl (hu.serviceWithin j hj)
  | acknowledge => exact (irqAcknowledge_ius hj).imp_right fun pending => ⟨pending, .inl rfl⟩
  | reset => exact .inl (hardwareReset_serviceWithin false s j hj)

/-! ### The stored vector -/

theorem Wr9Effect.wr2_eq {v : Byte} {s t : State} (h : Wr9Effect v s t) : t.ctl.wr2 = s.ctl.wr2 := by
  cases h with
  | channelReset ch => simp [Machine.channelReset, channelSlots, idleSlot, storeWr9]
  | store | hardwareReset => rfl

theorem irqAcknowledge_wr2 (s : State) : (irqAcknowledge s).2.ctl.wr2 = s.ctl.wr2 := by
  unfold irqAcknowledge; split <;> rfl

/-- No read touches the stored vector (R415). -/
theorem regRead_wr2 (ch : ChanId) (n : BitVec 4) (s : State) : (regRead ch n s).2.ctl.wr2 = s.ctl.wr2 := by
  obtain k | ⟨-, k⟩ | ⟨-, -, -, -, i, -, k⟩ := regRead_cases ch n s <;> rw [k]
  · exact (dataRead_channelOnly ch s).wr2
  · rfl

/-- An operation that writes register 2 stores its byte as the vector, and every other keeps it. -/
theorem Operation.wr2_eq {s u : State} {i : Instr} (h : Operation s i u) :
    (∃ ch, accessOf s i = some (.write ch 2#4 u.ctl.wr2)) ∨
    (u.ctl.wr2 = s.ctl.wr2 ∧ ∀ ch v, accessOf s i ≠ some (.write ch 2#4 v)) := by
  cases h with
  | @command _ ch v c data ha hc =>
    obtain ⟨-, kept, -, -⟩ := wr0Effects_frame ch hc v (portState data s)
    exact .inr ⟨kept.trans (portState_wr2 data s), by simp [ha]⟩
  | wr9 data ha hu => exact .inr ⟨hu.wr2_eq.trans (portState_wr2 data s), by simp [ha]⟩
  | @write _ ch n v data ha h0 h9 =>
    by_cases h2 : n = 2#4
    · subst h2; exact .inl ⟨ch, ha⟩
    · have kept := (regWrite_channelOnly h0 h2 h9 ch v (portState data s)).wr2
      exact .inr ⟨kept.trans (portState_wr2 data s), by simp [ha, h2]⟩
  | read data ha => exact .inr ⟨(regRead_wr2 _ _ _).trans (portState_wr2 data s), by simp [ha]⟩
  | event ha hu => exact .inr ⟨hu.wr2, by simp [ha]⟩
  | acknowledge => exact .inr ⟨irqAcknowledge_wr2 s, nofun⟩
  | reset => exact .inr ⟨rfl, nofun⟩

/-- Settles O59: a write of register 2 stores its byte, and no other operation touches the vector. -/
theorem storedVectorChangesOnlyByAWr2Write : Obligations.StoredVectorChangesOnlyByAWr2Write := by
  intro i s t h
  obtain ⟨u, r, hu, rfl⟩ := exec_operation h
  rw [respond_ctl]
  obtain ⟨ch, stored⟩ | ⟨kept, other⟩ := hu.wr2_eq
  · exact ⟨fun _ => ⟨ch, stored⟩, fun k v ha => by cases stored.symm.trans ha; rfl⟩
  · exact ⟨fun changed => absurd kept changed, fun k v ha => absurd ha (other k v)⟩

end Sys2Proof.Machine

/-! ## Operations with MIE clear

A trigger is dropped while MIE is clear (R404), so a property of the pending slots is kept by every operation: `Quiet p s` is
MIE clear with `p` of every pending slot, kept by everything but a write of WR9, which itself raises nothing. -/

namespace Sys2Proof.Machine

/-- Every pending slot satisfies `p`. -/
def PendingOnly (p : SlotId → Prop) (s : State) : Prop := ∀ i, (s.slot i).ip = true → p i

/-- MIE is clear and every pending slot satisfies `p`. -/
structure Quiet (p : SlotId → Prop) (s : State) : Prop where
  mieClear : mie s.ctl.wr9 = false
  pendingOnly : PendingOnly p s

theorem ite_quiet {p : SlotId → Prop} {c : Prop} [Decidable c] {t u : State} (ht : Quiet p t) (hu : Quiet p u) :
    Quiet p (if c then t else u) := by
  split
  · exact ht
  · exact hu

theorem setSlot_pendingOnly {p : SlotId → Prop} {s : State} (h : PendingOnly p s) (i : SlotId) {x : Slot}
    (hx : x.ip = true → (s.slot i).ip = true) : PendingOnly p (s.setSlot i x) := by
  intro j hj
  by_cases e : j = i
  · subst e; exact h j (hx (by simpa using hj))
  · exact h j (by rwa [setSlot_slot_ne s i x e] at hj)

section Quiet
variable {p : SlotId → Prop} {s : State} (h : Quiet p s) (ch : ChanId)
include h

/-! ### The parts of the state and the arbiter -/

theorem setChan_quiet (c : Channel) : Quiet p (s.setChan ch c) :=
  ⟨by rw [setChan_ctl]; exact h.mieClear, fun i => by rw [setChan_slot]; exact h.pendingOnly i⟩

theorem setCtl_quiet {k : Controller} (h9 : k.wr9 = s.ctl.wr9) (hs : k.slots = s.ctl.slots) : Quiet p (s.setCtl k) :=
  ⟨(congrArg mie h9).trans h.mieClear, fun i => by
    rw [State.slot, setCtl_ctl, hs]; exact h.pendingOnly i⟩

theorem setSlot_quiet (i : SlotId) {x : Slot} (hx : x.ip = true → (s.slot i).ip = true) : Quiet p (s.setSlot i x) :=
  ⟨h.mieClear, setSlot_pendingOnly h.pendingOnly i hx⟩

theorem trigger_quiet (t : IntType) : Quiet p (trigger ch t s) := by
  rw [trigger_of_mie_clear h.mieClear]
  exact h

theorem clear_quiet (c : Condition) : Quiet p (clear ch c s) :=
  have idle := setSlot_quiet h (slotOf ch c) (x := { s.slot (slotOf ch c) with ip := false }) nofun
  ⟨idle.mieClear, idle.pendingOnly⟩

theorem acknowledge_quiet (i : SlotId) : Quiet p (acknowledge i s) := setSlot_quiet h i nofun

theorem resetHighestIus_quiet : Quiet p (resetHighestIus s) := by
  unfold resetHighestIus
  split
  · exact setSlot_quiet h _ id
  · exact h

/-! ### The transmitter -/

theorem txIntCheck_quiet (full : Bool) : Quiet p (txIntCheck ch full s) := ite_quiet (trigger_quiet h ch .tx) h

theorem txKick_quiet : Quiet p (txKick ch s) := by
  unfold txKick
  dsimp only
  split
  · exact h
  · exact ite_quiet (txIntCheck_quiet (setChan_quiet h ch _) ch _) h

theorem transmitComplete_quiet : Quiet p (transmitComplete ch s) := by
  have rated := setChan_quiet h ch (applyDelayedRate (s.chan ch))
  have kicked := txKick_quiet rated ch
  exact ite_quiet (ite_quiet (setChan_quiet kicked ch _) kicked) rated

theorem txBitStep_quiet : Quiet p (txBitStep ch s) := by
  refine ite_quiet (setChan_quiet h ch _) (ite_quiet (setChan_quiet h ch _) ?_)
  split
  · exact setChan_quiet h ch _
  · exact transmitComplete_quiet (setChan_quiet h ch _) ch
  · exact setChan_quiet h ch _

theorem txClockEdge_quiet : Quiet p (txClockEdge ch s) :=
  ite_quiet (txBitStep_quiet (setChan_quiet h ch _) ch) (setChan_quiet h ch _)

theorem dataWrite_quiet (v : Byte) : Quiet p (dataWrite ch v s) :=
  ite_quiet (txKick_quiet (clear_quiet (setChan_quiet h ch _) ch .tx) ch) (txKick_quiet h ch)

/-! ### The receiver and the data read -/

theorem receiveData_quiet (d e : Byte) : Quiet p (receiveData ch d e s) := by
  have raised (c : Channel) := trigger_quiet (setChan_quiet h ch c) ch .rx
  exact ite_quiet (raised _) (ite_quiet (ite_quiet (raised _) (setChan_quiet h ch _)) (setChan_quiet h ch _))

theorem rxBitStep_quiet : Quiet p (rxBitStep ch s) := by
  refine ite_quiet (setChan_quiet h ch _) ?_
  split
  · exact ite_quiet h (setChan_quiet h ch _)
  · exact ite_quiet (setChan_quiet h ch _) (setChan_quiet h ch _)
  · exact setChan_quiet h ch _
  · exact receiveData_quiet (setChan_quiet h ch _) ch _ _

theorem rxClockEdge_quiet : Quiet p (rxClockEdge ch s) :=
  ite_quiet (rxBitStep_quiet (setChan_quiet h ch _) ch) (setChan_quiet h ch _)

theorem dataRead_quiet : Quiet p (dataRead ch s).2 := by
  unfold dataRead
  dsimp only
  split
  · exact h
  · split
    · exact ite_quiet (setChan_quiet h ch _) (trigger_quiet (setChan_quiet h ch _) ch .special)
    · exact ite_quiet (clear_quiet (setChan_quiet h ch _) ch .rx) (setChan_quiet h ch _)

/-! ### The line events -/

theorem latchExternal_quiet : Quiet p (latchExternal ch s) :=
  ite_quiet h (ite_quiet (trigger_quiet (setChan_quiet h ch _) ch .ext) (setChan_quiet h ch _))

theorem ctsEvent_quiet (l : Bool) : Quiet p (ctsEvent ch l s) := by
  have moved := setChan_quiet h ch { s.chan ch with ctsPin := l }
  have latched := ite_quiet (c := ((s.chan ch).wr15 &&& 0x20#8 != 0x00#8) = true) (latchExternal_quiet moved ch) moved
  exact ite_quiet moved (ite_quiet latched (txKick_quiet latched ch))

theorem dcdEvent_quiet (l : Bool) : Quiet p (dcdEvent ch l s) := by
  have moved := setChan_quiet h ch { s.chan ch with dcdPin := l }
  exact ite_quiet moved (ite_quiet (latchExternal_quiet moved ch) moved)

/-! ### The register writes -/

theorem wr0Pointer_quiet (v : Byte) : Quiet p (wr0Pointer v s) := by
  unfold wr0Pointer
  split
  · exact setCtl_quiet h rfl rfl
  · split
    · exact setCtl_quiet h rfl rfl
    · exact setCtl_quiet h rfl rfl
    · exact h

theorem commandPointHigh_quiet : Quiet p (commandPointHigh s) := by
  unfold commandPointHigh
  split
  · exact setCtl_quiet h rfl rfl
  · exact h

theorem commandResetExtStatus_quiet : Quiet p (commandResetExtStatus ch s) := by
  have cleared := clear_quiet h ch .ext
  have latch (c : Channel) := setChan_quiet cleared ch c
  exact ite_quiet (ite_quiet (ite_quiet (trigger_quiet (latch _) ch .ext) (latch _)) (latch _)) cleared

theorem commandResetTxInt_quiet : Quiet p (commandResetTxInt ch s) := setChan_quiet (clear_quiet h ch .tx) ch _

theorem commandErrorReset_quiet : Quiet p (commandErrorReset ch s) := by
  have cleared (c : Channel) := clear_quiet (setChan_quiet h ch c) ch .rx
  exact ite_quiet (trigger_quiet (cleared _) ch .rx) (cleared _)

theorem wr0Effects_quiet {c : State → State} (hc : c ∈ wr0Commands ch) (v : Byte) : Quiet p (wr0Effects c v s) := by
  have pointed := wr0Pointer_quiet h v
  have commands : ∀ c ∈ wr0Commands ch, Quiet p (c (wr0Pointer v s)) :=
    forall_wr0Commands.mpr ⟨pointed, commandPointHigh_quiet pointed, commandResetExtStatus_quiet pointed ch, pointed,
      setChan_quiet pointed ch _, commandResetTxInt_quiet pointed ch, commandErrorReset_quiet pointed ch,
      resetHighestIus_quiet pointed⟩
  rw [wr0Effects, wr0CrcReset_eq]
  exact commands c hc

/-- The register writes other than WR0 and WR9. -/
theorem regWrite_quiet {n : BitVec 4} (h0 : n ≠ 0#4) (h9 : n ≠ 9#4) (v : Byte) : Quiet p (regWrite ch n v s) := by
  revert h0 h9
  induction n using forall_reg <;> intro h0 h9
  case h0 => exact absurd rfl h0
  case h2 => exact setCtl_quiet h rfl rfl
  case h4 => exact ite_quiet h (setChan_quiet h ch _)
  case h5 => exact ite_quiet h (txKick_quiet (setChan_quiet h ch _) ch)
  case h8 => exact dataWrite_quiet h ch v
  case h9 => exact absurd rfl h9
  all_goals exact setChan_quiet h ch _

end Quiet

/-! ### The resets -/

theorem hardwareReset_pendingOnly (p : SlotId → Prop) (preserveShift : Bool) (s : State) :
    PendingOnly p (hardwareReset preserveShift s) := fun i e => by cases i <;> cases e

theorem idleSlot_pendingOnly {p : SlotId → Prop} {s : State} (h : PendingOnly p s) (i : SlotId) :
    PendingOnly p (idleSlot i s) :=
  fun j hj => setSlot_pendingOnly h i (x := Slot.idle) nofun j hj

theorem channelReset_pendingOnly {p : SlotId → Prop} {s : State} (h : PendingOnly p s) (ch : ChanId) :
    PendingOnly p (channelReset ch s) := by
  have stored : PendingOnly p (s.setChan ch (channelResetChannel s.cfg ch (s.chan ch))) := fun i => by
    rw [setChan_slot]; exact h i
  exact idleSlot_pendingOnly (idleSlot_pendingOnly (idleSlot_pendingOnly stored _) _) _

/-! ### Every operation -/

theorem portState_quiet {p : SlotId → Prop} {s : State} (h : Quiet p s) (data : Bool) : Quiet p (portState data s) := by
  cases data
  · exact setCtl_quiet h rfl rfl
  · exact h

theorem ChannelEffect.quiet {p : SlotId → Prop} {ch : ChanId} {s t : State} (h : ChannelEffect ch s t) (hs : Quiet p s) :
    Quiet p t := by
  cases h with
  | unchanged => exact hs
  | command hc v => exact wr0Effects_quiet hs ch hc v
  | write h0 h9 v => exact regWrite_quiet hs ch h0 h9 v
  | dataRead => exact dataRead_quiet hs ch
  | acknowledge i => exact acknowledge_quiet hs i
  | txClockEdge => exact txClockEdge_quiet hs ch
  | rxClockEdge => exact rxClockEdge_quiet hs ch
  | ctsEvent l => exact ctsEvent_quiet hs ch l
  | dcdEvent l => exact dcdEvent_quiet hs ch l
  | rxdEvent | syncEvent | riEvent => exact setChan_quiet hs ch _

/-- A write of WR9 may set MIE, but it raises nothing (R216). -/
theorem Effect.pendingOnly {p : SlotId → Prop} {s t : State} (h : Effect s t) (hs : Quiet p s) : PendingOnly p t := by
  cases h with
  | channel h => exact (h.quiet hs).pendingOnly
  | storeWr9 v => exact hs.pendingOnly
  | channelReset ch v => exact channelReset_pendingOnly (s := Machine.storeWr9 v s) hs.pendingOnly ch
  | wr9HwReset v => exact hardwareReset_pendingOnly p true s
  | reset => exact hardwareReset_pendingOnly p false s

/-- Settles O57: `p` is what was pending before the operation. -/
theorem nothingBecomesPendingWhileMieIsClear : Obligations.NothingBecomesPendingWhileMieIsClear := by
  intro i s t clear h
  obtain ⟨data, u, r, hu, rfl⟩ := exec_effect h
  have before : Quiet (fun j => (s.slot j).ip = true) s := ⟨clear, fun _ => id⟩
  exact hu.pendingOnly (portState_quiet before data)

end Sys2Proof.Machine

/-! ## The resets

What the two resets leave, field by field, and construction as a hardware reset over the drawn fields. -/

namespace Sys2Proof.Machine

open Sys2Proof.Claims

/-! ### The channel record -/

/-- The hidden part takes the values of R505; the rates are those of the registers as the reset leaves them. -/
theorem resetChannelHidden_hiddenReset (cfg : Config) (ch : ChanId) (c : Channel) :
    HiddenReset cfg ch c (resetChannelHidden cfg ch c) := by
  have rate : rateOf cfg ch c = expectedRate cfg ch (resetChannelHidden cfg ch c) := rateOf_eq_expectedRate cfg ch c
  exact ⟨rfl, rfl, rfl, rfl, rfl, rfl, rfl, rfl, rfl, rfl, rfl, rfl, rfl, rfl, rfl, rfl, rfl, rfl, rate, rate, rfl,
    rfl, rfl, rfl, rfl, rfl, rfl⟩

theorem resetCommonRegs_commonRegsReset (cfg : Config) (c : Channel) : CommonRegsReset cfg c (resetCommonRegs cfg c) :=
  ⟨rfl, rfl, rfl, rfl, rfl, rfl, rfl, rfl, rfl, rfl⟩

theorem hardwareResetChannel_channelHardwareReset (cfg : Config) (ch : ChanId) (c : Channel) :
    ChannelHardwareReset cfg ch c (hardwareResetChannel cfg ch c) :=
  ⟨resetCommonRegs_commonRegsReset cfg c, rfl, rfl, rfl, resetChannelHidden_hiddenReset cfg ch _⟩

/-! ### The hardware reset -/

theorem hardwareReset_chan (preserveShift : Bool) (s : State) (ch : ChanId) :
    (hardwareReset preserveShift s).chan ch = hardwareResetChannel s.cfg ch (s.chan ch) := by
  cases ch <;> rfl

theorem hardwareReset_slot (preserveShift : Bool) (s : State) (i : SlotId) :
    (hardwareReset preserveShift s).slot i = Slot.idle := by
  cases i <;> rfl

theorem hardwareReset_hardwareReset (preserveShift : Bool) (s : State) :
    HardwareReset preserveShift s (hardwareReset preserveShift s) := by
  refine ⟨fun ch => ?_, rfl, hardwareReset_slot preserveShift s, rfl, rfl, rfl, rfl, rfl, rfl⟩
  rw [hardwareReset_chan]
  exact hardwareResetChannel_channelHardwareReset s.cfg ch (s.chan ch)

/-- Settles O11: the values of R502 and R505, and the reset pin is the reset that selects shift left. -/
theorem hardwareResetLeavesTheResetValues : Obligations.HardwareResetLeavesTheResetValues :=
  ⟨hardwareReset_hardwareReset, fun s => ⟨_, rfl, hardwareReset_hardwareReset false s⟩⟩

/-! ### The channel reset -/

theorem idleSlot_slot (i j : SlotId) (s : State) : (idleSlot i s).slot j = if j = i then Slot.idle else s.slot j := by
  rw [idleSlot, setIpBit_slot]
  split
  · next e => rw [e, setSlot_slot]
  · next e => exact setSlot_slot_ne s i _ e

theorem idleSlot_ipBit (i j : SlotId) (s : State) : (idleSlot i s).ipBit j = if j = i then false else s.ipBit j := by
  unfold idleSlot
  split
  · next e => rw [e, setIpBit_ipBit]
  · next e => rw [setIpBit_ipBit_ne _ i _ e, setSlot_ipBit]

/-- Clearing some slots leaves the others (R503). -/
theorem foldl_idleSlot_slot (is : List SlotId) (j : SlotId) (s : State) :
    (is.foldl (fun t i => idleSlot i t) s).slot j = if j ∈ is then Slot.idle else s.slot j := by
  induction is generalizing s with
  | nil => rfl
  | cons i is ih =>
    rw [List.foldl_cons, ih, idleSlot_slot]
    by_cases e : j = i <;> simp [e]

/-- Clearing the RR3 bits of some slots leaves those of the others (R503). -/
theorem foldl_idleSlot_ipBit (is : List SlotId) (j : SlotId) (s : State) :
    (is.foldl (fun t i => idleSlot i t) s).ipBit j = if j ∈ is then false else s.ipBit j := by
  induction is generalizing s with
  | nil => rfl
  | cons i is ih =>
    rw [List.foldl_cons, ih, idleSlot_ipBit]
    by_cases e : j = i <;> simp [e]

theorem slotOf_mem_channelSlots (ch : ChanId) (c : Condition) : slotOf ch c ∈ channelSlots ch := by
  cases c <;> simp [channelSlots]

theorem slotOf_other_notMem_channelSlots (ch : ChanId) (c : Condition) : slotOf ch.other c ∉ channelSlots ch := by
  cases ch <;> cases c <;> decide

section ChannelReset
variable (ch : ChanId) (s : State)

theorem channelReset_chan : (channelReset ch s).chan ch = channelResetChannel s.cfg ch (s.chan ch) := by
  simp [channelReset, channelSlots, idleSlot]

theorem channelReset_slot (i : SlotId) :
    (channelReset ch s).slot i = if i ∈ channelSlots ch then Slot.idle else s.slot i := by
  rw [channelReset, foldl_idleSlot_slot, setChan_slot]

theorem channelReset_ipBit (i : SlotId) :
    (channelReset ch s).ipBit i = if i ∈ channelSlots ch then false else s.ipBit i := by
  rw [channelReset, foldl_idleSlot_ipBit, setChan_ipBit]

theorem channelReset_wr2 : (channelReset ch s).ctl.wr2 = s.ctl.wr2 := by simp [channelReset, channelSlots, idleSlot]
theorem channelReset_wr9 : (channelReset ch s).ctl.wr9 = s.ctl.wr9 := by simp [channelReset, channelSlots, idleSlot]
theorem channelReset_ptr : (channelReset ch s).ctl.ptr = s.ctl.ptr := by simp [channelReset, channelSlots, idleSlot]
theorem channelReset_zshift : (channelReset ch s).ctl.zshift = s.ctl.zshift := by
  simp [channelReset, channelSlots, idleSlot]
theorem channelReset_cfg : (channelReset ch s).cfg = s.cfg := by simp [channelReset, channelSlots, idleSlot]
theorem channelReset_pending : (channelReset ch s).pending = s.pending := by simp [channelReset, channelSlots, idleSlot]

end ChannelReset

/-- Settles O13: the record of R503 and R505, the slots of the channel and of the other, and what the reset leaves. -/
theorem channelResetLeavesTheResetValues : Obligations.ChannelResetLeavesTheResetValues := by
  refine fun ch s => ⟨?_, channelReset_wr9 ch s⟩
  unfold ChannelReset
  rw [channelReset_chan]
  refine ⟨resetCommonRegs_commonRegsReset s.cfg (s.chan ch), rfl, rfl, rfl, resetChannelHidden_hiddenReset s.cfg ch _,
    channelReset_chan_other ch s, fun c => ?_, fun c => ?_, channelReset_wr2 ch s, channelReset_ptr ch s,
    channelReset_zshift ch s, channelReset_cfg ch s, channelReset_pending ch s⟩
  · rw [channelReset_slot, channelReset_ipBit, if_pos (slotOf_mem_channelSlots ch c), if_pos (slotOf_mem_channelSlots ch c)]
    exact ⟨rfl, rfl⟩
  · rw [channelReset_slot, channelReset_ipBit, if_neg (slotOf_other_notMem_channelSlots ch c),
      if_neg (slotOf_other_notMem_channelSlots ch c)]
    exact ⟨rfl, rfl⟩

/-! ### Construction -/

/-- With the WR14 of a hardware reset the generator is off, so the rate is stopped (R31, R36). -/
theorem rateOf_of_reset_wr14 {c : Channel} (h : c.wr14 = 0x30#8) (cfg : Config) (ch : ChanId) :
    rateOf cfg ch c = .stopped := by
  rw [rateOf, h]
  exact if_neg (by decide)

/-- The drawn fields of a channel hold the draw, its input pins are at 1 and a missing WR7' is 0 (R504, R22): the clause of
`Drawn` on one channel. -/
def ChannelDrawn (cfg : Config) (x : ChannelDraw) (c : Channel) : Prop :=
  c.wr1 = x.wr1 ∧ c.wr3 = x.wr3 ∧ c.wr4 = x.wr4 ∧ c.wr5 = x.wr5 ∧ c.wr6 = x.wr6 ∧ c.wr7 = x.wr7 ∧
  c.wr12 = x.wr12 ∧ c.wr13 = x.wr13 ∧ c.syncHunt = x.syncHunt ∧ c.ctsPin = true ∧ c.dcdPin = true ∧
  c.syncPin = true ∧ c.rxdPin = true ∧ c.riPin = true ∧ (cfg.isEscc = false → c.wr7p = 0x00#8)

/-- A hardware reset over the draw is the constructed channel (R504). -/
theorem hardwareResetChannel_of_drawn {cfg : Config} {x : ChannelDraw} {c : Channel} (h : ChannelDrawn cfg x c)
    (ch : ChanId) : hardwareResetChannel cfg ch c = Channel.construct cfg x := by
  obtain ⟨wr1, wr3, wr4, wr5, wr6, wr7, wr12, wr13, hunt, cts, dcd, sync, rxd, ri, missing⟩ := h
  have prime : (if cfg.isEscc then 0x20#8 else c.wr7p) = if cfg.isEscc then 0x20#8 else 0x00#8 := by
    cases e : cfg.isEscc
    · exact missing e
    · rfl
  simp only [hardwareResetChannel, resetChannelHidden, rateOf_of_reset_wr14, resetCommonRegs, Channel.construct, prime,
    wr1, wr3, wr4, wr5, wr6, wr7, wr12, wr13, hunt, cts, dcd, sync, rxd, ri]

/-- A hardware reset over the draw is construction, the two fields of the model's own apart (R504). -/
theorem hardwareReset_of_drawn {d : PowerOnDraw} {s : State} (h : Drawn d s) :
    hardwareReset false s = { State.construct s.cfg d with pending := s.pending, response := s.response } := by
  obtain ⟨vector, master, channels⟩ := h
  have a : hardwareResetChannel s.cfg .a s.chA = Channel.construct s.cfg d.a :=
    hardwareResetChannel_of_drawn (channels .a) .a
  have b : hardwareResetChannel s.cfg .b s.chB = Channel.construct s.cfg d.b :=
    hardwareResetChannel_of_drawn (channels .b) .b
  simp only [hardwareReset, a, b, vector, master]
  rfl

/-- Settles O10: the reset over the draw, a draw with the byte to be read as its vector, and the fixed WR15 (R263, R276). -/
theorem constructionIsAHardwareResetOverTheDraw : Obligations.ConstructionIsAHardwareResetOverTheDraw :=
  ⟨fun _ _ => hardwareReset_of_drawn, fun _ v => ⟨{ PowerOnDraw.zero with wr2 := v }, rfl⟩, fun _ _ => rfl⟩

/-- Construction leaves the hidden part of a channel as R505 does. -/
theorem resetChannelHidden_construct (cfg : Config) (ch : ChanId) (x : ChannelDraw) :
    resetChannelHidden cfg ch (Channel.construct cfg x) = Channel.construct cfg x := by
  rw [resetChannelHidden, rateOf_of_reset_wr14 rfl]
  rfl

theorem construct_channelInv {cfg : Config} (hp : cfg.positive = true) (ch : ChanId) (x : ChannelDraw) :
    ChannelInv cfg ch (Channel.construct cfg x) := by
  rw [← resetChannelHidden_construct cfg ch x]
  exact resetChannelHidden_inv hp ch fun e => by simp [Channel.construct, e]

theorem construct_inv {cfg : Config} (hp : cfg.positive = true) (d : PowerOnDraw) : Inv (State.construct cfg d) where
  cfgPositive := hp
  wr9High := by simp [State.construct, Controller.construct, BitVec.and_assoc]
  pendingShown i e := by cases i <;> cases e
  pointerUBus _ := rfl
  shiftZBus _ := rfl
  chanA := construct_channelInv hp .a d.a
  chanB := construct_channelInv hp .b d.b

/-- Settles O8: a constructed channel is one whose hidden part has been reset, and the default parameters are positive. -/
theorem invariantHoldsAtReset : Obligations.InvariantHoldsAtReset :=
  ⟨fun _ d hp => construct_inv hp d, construct_inv rfl PowerOnDraw.zero⟩

end Sys2Proof.Machine

/-! ## An operation and what it disturbs

`Performed s i u` says more than `Operation s i u`: which accesses take the register pointer, which writes of WR9 reset, and which
event an operation without an access is. The rules of the register pointer and of the disarmed transmit interrupt are case
analyses of it. -/

namespace Sys2Proof.Machine

open Sys2Proof.Claims

/-- Nothing, or a line or clock event of channel `ch` with level `l`. -/
abbrev lineEvents (ch : ChanId) (l : Bool) : List (State → State) :=
  [id, txClockEdge ch, rxClockEdge ch, rxdEvent ch l, ctsEvent ch l, dcdEvent ch l, syncEvent ch l, riEvent ch l]

/-- A statement about every line event is one about the eight. -/
theorem forall_lineEvents {ch : ChanId} {l : Bool} {q : (State → State) → Prop} :
    (∀ e ∈ lineEvents ch l, q e) ↔ q id ∧ q (txClockEdge ch) ∧ q (rxClockEdge ch) ∧ q (rxdEvent ch l) ∧
      q (ctsEvent ch l) ∧ q (dcdEvent ch l) ∧ q (syncEvent ch l) ∧ q (riEvent ch l) := by
  simp [lineEvents]

/-- The access of `i` starts from `portState data s`: from `s` itself unless `i` is a control access (R152). -/
def StartsAt (s : State) (i : Instr) (data : Bool) : Prop := data = true ∨ IsControlAccess s i

/-- What a completed operation makes of `s`, the response apart, with the conditions under which it takes the pointer or resets. -/
inductive Performed (s : State) (i : Instr) : State → Prop
  | command {ch : ChanId} {v : Byte} {c : State → State} {data : Bool} (hd : StartsAt s i data)
      (ha : accessOf s i = some (.write ch 0#4 v)) (hc : c ∈ wr0Commands ch) : Performed s i (wr0Effects c v (portState data s))
  | write {ch : ChanId} {n : BitVec 4} {v : Byte} {data : Bool} (hd : StartsAt s i data)
      (ha : accessOf s i = some (.write ch n v)) (h0 : n ≠ 0#4) (h9 : n ≠ 9#4) :
      Performed s i (regWrite ch n v (portState data s))
  | storeWr9 {data : Bool} (hd : StartsAt s i data) (v : Byte) : Performed s i (storeWr9 v (portState data s))
  | channelReset {ch : ChanId} {data : Bool} (hd : StartsAt s i data) (hr : ResetsChannel s ch i) (v : Byte) :
      Performed s i (channelReset ch (Machine.storeWr9 v (portState data s)))
  | wr9HwReset (data : Bool) (hr : IsHardwareReset s i) (v : Byte) : Performed s i (wr9HwReset v (portState data s))
  | read {data : Bool} (hd : StartsAt s i data) (ch : ChanId) (n : BitVec 4) :
      Performed s i (regRead ch n (portState data s)).2
  | event {ch : ChanId} {l : Bool} {e : State → State} (he : e ∈ lineEvents ch l) : Performed s i (e s)
  | acknowledge : Performed s i (irqAcknowledge s).2
  | reset (hr : IsHardwareReset s i) : Performed s i (hardwareReset false s)

section Access
variable {s : State} {i : Instr} {ch : ChanId} {n : BitVec 4} {v : Byte} {data : Bool}

/-- A write that reaches WR9 stores, or resets what its code names (R216). -/
theorem writeWr9_performed (hd : StartsAt s i data) (ha : accessOf s i = some (.write ch 9#4 v)) :
    Performed s i (writeWr9 v (portState data s)) := by
  rw [writeWr9]
  obtain code | code | code | code := bitVec2_cases (wr9ResetCode v) <;> rw [code]
  · exact .storeWr9 hd v
  · exact .channelReset (ch := .b) hd (.inr (.inr ⟨ch, v, ha, code⟩)) v
  · exact .channelReset (ch := .a) hd (.inr (.inr ⟨ch, v, ha, code⟩)) v
  · exact .wr9HwReset data (.inr (.inr ⟨ch, v, ha, code⟩)) v

theorem regWrite_performed (hd : StartsAt s i data) (ha : accessOf s i = some (.write ch n v)) :
    Performed s i (regWrite ch n v (portState data s)) := by
  by_cases h0 : n = 0#4
  · subst h0
    obtain ⟨c, hc, written⟩ := writeWr0_cases ch v (portState data s)
    have command := Performed.command hd ha hc
    rwa [wr0Effects, wr0CrcReset_eq, ← written] at command
  by_cases h9 : n = 9#4
  · subst h9
    exact writeWr9_performed hd ha
  · exact .write hd ha h0 h9

/-- A word of a Universal-Bus port is declined on the Z-Bus; otherwise a control port takes the pointer and a data port does not. -/
theorem exec_port_performed {p : Bool × ChanId × Option Byte} {t : State} (hi : uBusPort i = some p)
    (h : exec i s = .next t) : ∃ u r, Performed s i u ∧ t = u.respond r := by
  obtain ⟨data, ch, value⟩ := p
  cases hb : s.cfg.bus with
  | zBus =>
    have declined : ∃ r, t = s.respond r := by
      cases value with
      | some v => cases (exec_of_zBus_portWrite hb hi).symm.trans h; exact ⟨_, rfl⟩
      | none => cases (exec_of_zBus_portRead hb hi).symm.trans h; exact ⟨_, rfl⟩
    obtain ⟨r, rfl⟩ := declined
    exact ⟨s, r, .event (ch := ch) (l := false) (e := id) (by simp), rfl⟩
  | uBus =>
    have hz : ¬ s.cfg.isZBus = true := by rw [isZBus_eq_decide, hb]; decide
    have hd : StartsAt s i data := by
      cases data
      · exact .inr ⟨hb, ch, value, hi⟩
      · exact .inl rfl
    have ha := accessOf_of_port hi s
    rw [if_pos hb] at ha
    cases value with
    | some v =>
      rw [exec_of_portWrite hi, uBusWrite_portTarget, if_neg hz] at h
      exact ⟨_, _, regWrite_performed hd ha, done_next h⟩
    | none =>
      rw [exec_of_portRead hi, uBusRead_portTarget, if_neg hz] at h
      exact ⟨_, _, .read hd ch _, answer_next h⟩

/-- A Z-Bus word is declined on the Universal-Bus; otherwise it reaches its register from `s`. -/
theorem exec_busZbusW_performed {o : BitVec 6} {t : State} (h : exec (.busZbusW o v) s = .next t) :
    ∃ u r, Performed s (.busZbusW o v) u ∧ t = u.respond r := by
  refine ⟨_, _, ?_, done_next ((exec_busZbusW o v s).symm.trans h)⟩
  split
  · next hb => exact regWrite_performed (data := true) (.inl rfl) (if_pos hb)
  · exact .event (ch := .a) (l := false) (e := id) (by simp)

theorem exec_busZbusR_performed {o : BitVec 6} {t : State} (h : exec (.busZbusR o) s = .next t) :
    ∃ u r, Performed s (.busZbusR o) u ∧ t = u.respond r := by
  refine ⟨_, _, ?_, answer_next ((exec_busZbusR o s).symm.trans h)⟩
  split
  · exact .read (data := true) (.inl rfl) _ _
  · exact .event (ch := .a) (l := false) (e := id) (by simp)

end Access

/-- Every completed operation is one of these. -/
theorem exec_performed {i : Instr} {s t : State} (h : exec i s = .next t) : ∃ u r, Performed s i u ∧ t = u.respond r := by
  have start : StartsAt s i true := .inl rfl
  have write {ch n v} (ha : accessOf s i = some (.write ch n v)) (hw : wordAccess i = some (.write ch n v))
      (h0 : n ≠ 0#4) (h9 : n ≠ 9#4) : ∃ u r, Performed s i u ∧ t = u.respond r :=
    ⟨_, _, .write start ha h0 h9, done_next ((exec_of_wordWrite hw h0 h9 s).symm.trans h)⟩
  have event {ch l e} (he : e ∈ lineEvents ch l) (ht : t = (e s).respond .nothing) :
      ∃ u r, Performed s i u ∧ t = u.respond r := ⟨_, _, .event he, ht⟩
  cases i
  case wr0Null | wr0PointHigh | wr0ResetExtStatus | wr0SendAbort | wr0EnableIntNextRx | wr0ResetTxInt | wr0ErrorReset
    | wr0ResetHighestIus => exact ⟨_, _, .command start rfl (by simp), done_next h⟩
  case wr9NoReset k v => exact ⟨_, _, .storeWr9 start v, done_next h⟩
  case wr9ResetB k v => exact ⟨_, _, .channelReset start (.inr (.inl ⟨k, v, .inr ⟨rfl, rfl⟩⟩)) v, done_next h⟩
  case wr9ResetA k v => exact ⟨_, _, .channelReset start (.inr (.inl ⟨k, v, .inl ⟨rfl, rfl⟩⟩)) v, done_next h⟩
  case wr9HwReset k v => exact ⟨_, _, .wr9HwReset true (.inr (.inl ⟨k, v, rfl⟩)) v, done_next h⟩
  case rr0 | rr1 | rr2 | rr3 | rr4 | rr5 | rr6 | rr7 | rr8 | rr9 | rr10 | rr11 | rr12 | rr13 | rr14 | rr15 =>
    exact ⟨_, _, .read start _ _, answer_next ((exec_of_wordRead rfl s).symm.trans h)⟩
  case txc ch => exact event (ch := ch) (l := false) (by simp) (execTxc_next h)
  case rxc ch => exact event (ch := ch) (l := false) (by simp) (execRxc_next h)
  case rxd ch l => exact event (ch := ch) (l := l) (by simp) (done_next h)
  case cts ch l => exact event (ch := ch) (l := l) (by simp) (done_next h)
  case dcd ch l => exact event (ch := ch) (l := l) (by simp) (done_next h)
  case sync ch l => exact event (ch := ch) (l := l) (by simp) (done_next h)
  case ri ch l => exact event (ch := ch) (l := l) (by simp) (done_next h)
  case irqState => cases h; exact ⟨s, _, .event (ch := .a) (l := false) (e := id) (by simp), rfl⟩
  case irqAck => cases h; exact ⟨_, _, .acknowledge, rfl⟩
  case reti => exact event (ch := .a) (l := false) (e := id) (by simp) (done_next h)
  case reset => exact ⟨_, _, .reset (.inl rfl), done_next h⟩
  case busZbusW => exact exec_busZbusW_performed h
  case busZbusR => exact exec_busZbusR_performed h
  case busCdAbW | busCdAbR | busCdBaW | busCdBaR | busBaCdW | busBaCdR | busBaCdInvW | busBaCdInvR | busCaW | busCaR | busCbW
    | busCbR | busDaW | busDaR | busDbW | busDbR => exact exec_port_performed rfl h
  all_goals exact write rfl rfl (by decide) (by decide)

/-! ### The register pointer -/

theorem lineEvents_channelOnly (ch : ChanId) (l : Bool) (s : State) : ∀ e ∈ lineEvents ch l, ChannelOnly ch s (e s) :=
  forall_lineEvents.mpr ⟨.refl ch s, txClockEdge_channelOnly ch s, rxClockEdge_channelOnly ch s, setChan_channelOnly s ch _,
    ctsEvent_channelOnly ch l s, dcdEvent_channelOnly ch l s, setChan_channelOnly s ch _, setChan_channelOnly s ch _⟩

theorem irqAcknowledge_ptr (s : State) : (irqAcknowledge s).2.ctl.ptr = s.ctl.ptr := by
  unfold irqAcknowledge; split <;> rfl

/-- No read touches the pointer once its port has taken it (R152). -/
theorem regRead_ptr (ch : ChanId) (n : BitVec 4) (s : State) : (regRead ch n s).2.ctl.ptr = s.ctl.ptr := by
  obtain k | ⟨-, k⟩ | ⟨-, -, -, -, i, -, k⟩ := regRead_cases ch n s <;> rw [k]
  · exact (dataRead_channelOnly ch s).ptr
  · rfl

/-- Of the register writes only WR0 and WR9 can touch the pointer. -/
theorem regWrite_ptr {n : BitVec 4} (h0 : n ≠ 0#4) (h9 : n ≠ 9#4) (ch : ChanId) (v : Byte) (s : State) :
    (regWrite ch n v s).ctl.ptr = s.ctl.ptr := by
  by_cases h2 : n = 2#4
  · subst h2; rfl
  · exact (regWrite_channelOnly h0 h2 h9 ch v s).ptr

/-- What does not disturb the pointer keeps it: its access starts from `s`, a WR0 write comes on a Z-Bus chip alone, and nothing is
a hardware reset (R520). -/
theorem Performed.ptr_eq {s u : State} {i : Instr} (h : Performed s i u) (hn : ¬ DisturbsPointer s i) :
    u.ctl.ptr = s.ctl.ptr := by
  have kept {data : Bool} (hd : StartsAt s i data) : (portState data s).ctl.ptr = s.ctl.ptr := by
    obtain rfl | control := hd
    · rfl
    · exact absurd (.inl control) hn
  have noReset : ¬ IsHardwareReset s i := fun reset => hn (.inr (.inr reset))
  cases h with
  | @command ch v c data hd ha hc =>
    have hz : s.cfg.bus = .zBus := by
      cases hb : s.cfg.bus with
      | zBus => rfl
      | uBus => exact absurd (.inr (.inl ⟨hb, ch, v, ha⟩)) hn
    obtain ⟨-, -, -, ptr⟩ := wr0Effects_frame ch hc v (portState data s)
    exact (ptr (by rwa [portState_cfg])).trans (kept hd)
  | write hd ha h0 h9 => exact (regWrite_ptr h0 h9 _ _ _).trans (kept hd)
  | storeWr9 hd v => exact kept hd
  | channelReset hd hr v => exact (channelReset_ptr _ _).trans (kept hd)
  | wr9HwReset data hr v => exact absurd hr noReset
  | read hd ch n => exact (regRead_ptr ch n _).trans (kept hd)
  | event he => exact (lineEvents_channelOnly _ _ s _ he).ptr
  | acknowledge => exact irqAcknowledge_ptr s
  | reset hr => exact absurd hr noReset

/-- Settles O55: every completed operation is performed, and one that does not disturb the pointer keeps it. -/
theorem pointerIsDisturbedOnlyByControlAccesses : Obligations.PointerIsDisturbedOnlyByControlAccesses := by
  intro i s t hn h
  obtain ⟨u, r, hu, rfl⟩ := exec_performed h
  exact hu.ptr_eq hn

end Sys2Proof.Machine

/-! ## The disarmed transmit interrupt

`TxQuiet ch p s`: the transmit interrupt of channel `ch` is disarmed, and its slot is pending only if `p`. Every operation keeps it
but a data write to the channel and a reset of the channel (R525): the transmit trigger tests the flag (R313), and no other
trigger reaches the slot (R402). -/

namespace Sys2Proof.Machine

open Sys2Proof.Claims

/-- The transmit interrupt of channel `ch` is disarmed and its slot, if pending, satisfies `p`. -/
structure TxQuiet (ch : ChanId) (p : Prop) (s : State) : Prop where
  disarmed : (s.chan ch).txIntDisarmed = true
  notRaised : (s.slot (slotOf ch .tx)).ip = true → p

/-- Each channel has a slot of its own for each condition (R402). -/
theorem slotOf_inj {k ch : ChanId} {c d : Condition} (h : slotOf k c = slotOf ch d) : k = ch ∧ c = d := by
  cases k <;> cases ch <;> cases c <;> cases d <;> cases h <;> exact ⟨rfl, rfl⟩

theorem wr14Rate_txIntDisarmed (cfg : Config) (ch : ChanId) (old : Byte) (c : Channel) :
    (wr14Rate cfg ch old c).txIntDisarmed = c.txIntDisarmed := by
  unfold wr14Rate
  split
  · split
    · rw [rateUpdate_frame]
    · rfl
  · split <;> rfl

section TxQuiet
variable {ch : ChanId} {p : Prop} {s : State}

theorem ite_txQuiet {c : Prop} [Decidable c] {t u : State} (ht : TxQuiet ch p t) (hu : TxQuiet ch p u) :
    TxQuiet ch p (if c then t else u) := by
  split
  · exact ht
  · exact hu

variable (h : TxQuiet ch p s) (k : ChanId)
include h

/-! ### The parts of the state and the arbiter -/

/-- A record that is disarmed when it is the channel's. -/
theorem setChan_disarmed_txQuiet {c : Channel} (hc : k = ch → c.txIntDisarmed = true) : TxQuiet ch p (s.setChan k c) := by
  refine ⟨?_, fun e => h.notRaised (by rwa [setChan_slot] at e)⟩
  by_cases same : k = ch
  · subst same; rw [setChan_chan]; exact hc rfl
  · rw [setChan_chan_ne s k c (Ne.symm same)]; exact h.disarmed

/-- A record that keeps the flag. -/
theorem setChan_txQuiet {c : Channel} (hc : c.txIntDisarmed = (s.chan k).txIntDisarmed) : TxQuiet ch p (s.setChan k c) :=
  setChan_disarmed_txQuiet h k fun same => by rw [hc, same]; exact h.disarmed

/-- A controller record that keeps the slots. -/
theorem setCtl_txQuiet {q : Controller} (hs : q.slots = s.ctl.slots) : TxQuiet ch p (s.setCtl q) :=
  ⟨by rw [setCtl_chan]; exact h.disarmed, fun e => h.notRaised (by rwa [State.slot, setCtl_ctl, hs] at e)⟩

/-- A slot that is not made pending. -/
theorem setSlot_txQuiet (i : SlotId) {x : Slot} (hx : x.ip = true → (s.slot i).ip = true) : TxQuiet ch p (s.setSlot i x) := by
  refine ⟨by rw [setSlot_chan]; exact h.disarmed, fun e => h.notRaised ?_⟩
  by_cases same : slotOf ch .tx = i
  · rw [same, setSlot_slot] at e
    rw [same]
    exact hx e
  · rwa [setSlot_slot_ne s i x same] at e

/-- A trigger of another slot. -/
theorem trigger_txQuiet (t : IntType) (ht : k = ch → t.condition ≠ .tx) : TxQuiet ch p (trigger k t s) := by
  have other : slotOf ch .tx ≠ slotOf k t.condition := fun e => by
    obtain ⟨same, tx⟩ := slotOf_inj e
    exact ht same.symm tx.symm
  exact ⟨by rw [trigger_chan]; exact h.disarmed, fun e => h.notRaised (by rwa [trigger_slot_ne other] at e)⟩

theorem clear_txQuiet (c : Condition) : TxQuiet ch p (clear k c s) :=
  have idle := setSlot_txQuiet h (slotOf k c) (x := { s.slot (slotOf k c) with ip := false }) nofun
  ⟨by rw [clear_chan]; exact h.disarmed, idle.notRaised⟩

theorem acknowledge_txQuiet (i : SlotId) : TxQuiet ch p (acknowledge i s) := setSlot_txQuiet h i nofun

theorem resetHighestIus_txQuiet : TxQuiet ch p (resetHighestIus s) := by
  unfold resetHighestIus
  split
  · exact setSlot_txQuiet h _ id
  · exact h

theorem irqAcknowledge_txQuiet : TxQuiet ch p (irqAcknowledge s).2 := by
  unfold irqAcknowledge
  split
  · exact h
  · exact acknowledge_txQuiet h _

/-! ### The transmitter -/

/-- The check of R313 tests the flag of its own channel, and the trigger of the other channel reaches another slot. -/
theorem txIntCheck_txQuiet (full : Bool) : TxQuiet ch p (txIntCheck k full s) := by
  by_cases same : k = ch
  · subst same
    simpa [txIntCheck, h.disarmed] using h
  · exact ite_txQuiet (trigger_txQuiet h k .tx fun e => absurd e same) h

theorem txKick_txQuiet : TxQuiet ch p (txKick k s) := by
  unfold txKick
  dsimp only
  split
  · exact h
  · exact ite_txQuiet (txIntCheck_txQuiet (setChan_txQuiet h k (by rfl)) k _) h

theorem transmitComplete_txQuiet : TxQuiet ch p (transmitComplete k s) := by
  have rated := setChan_txQuiet h k (c := applyDelayedRate (s.chan k)) (by rw [applyDelayedRate_eq])
  have kicked := txKick_txQuiet rated k
  exact ite_txQuiet (ite_txQuiet (setChan_txQuiet kicked k (by rw [markAllSent_eq])) kicked) rated

theorem txBitStep_txQuiet : TxQuiet ch p (txBitStep k s) := by
  refine ite_txQuiet (setChan_txQuiet h k (by rfl)) (ite_txQuiet (setChan_txQuiet h k (by rfl)) ?_)
  split
  · exact setChan_txQuiet h k (by rfl)
  · exact transmitComplete_txQuiet (setChan_txQuiet h k (by rfl)) k
  · exact setChan_txQuiet h k (by rfl)

theorem txClockEdge_txQuiet : TxQuiet ch p (txClockEdge k s) :=
  ite_txQuiet (txBitStep_txQuiet (setChan_txQuiet h k (by rfl)) k) (setChan_txQuiet h k (by rfl))

/-- A data write arms its own channel and no other (R305). -/
theorem dataWrite_txQuiet (other : k ≠ ch) (v : Byte) : TxQuiet ch p (dataWrite k v s) :=
  have pushed (c : Channel) := setChan_disarmed_txQuiet h k (c := c) fun e => absurd e other
  ite_txQuiet (txKick_txQuiet (clear_txQuiet (pushed _) k .tx) k) (txKick_txQuiet h k)

/-! ### The receiver and the data read -/

theorem receiveData_txQuiet (d e : Byte) : TxQuiet ch p (receiveData k d e s) := by
  have pushed {c : Channel} (hc : c.txIntDisarmed = (s.chan k).txIntDisarmed) := setChan_txQuiet h k hc
  have raised {c : Channel} (hc : c.txIntDisarmed = (s.chan k).txIntDisarmed) :=
    trigger_txQuiet (pushed hc) k .rx fun _ => nofun
  exact ite_txQuiet (raised (by rfl))
    (ite_txQuiet (ite_txQuiet (raised (by rfl)) (pushed (by rfl))) (pushed (by rfl)))

theorem rxBitStep_txQuiet : TxQuiet ch p (rxBitStep k s) := by
  refine ite_txQuiet (setChan_txQuiet h k (by rfl)) ?_
  split
  · exact ite_txQuiet h (setChan_txQuiet h k (by rfl))
  · exact ite_txQuiet (setChan_txQuiet h k (by rfl)) (setChan_txQuiet h k (by rfl))
  · exact setChan_txQuiet h k (by rfl)
  · exact receiveData_txQuiet (setChan_txQuiet h k (by rfl)) k _ _

theorem rxClockEdge_txQuiet : TxQuiet ch p (rxClockEdge k s) :=
  ite_txQuiet (rxBitStep_txQuiet (setChan_txQuiet h k (by rfl)) k) (setChan_txQuiet h k (by rfl))

theorem dataRead_txQuiet : TxQuiet ch p (dataRead k s).2 := by
  have kept {c : Channel} (hc : c.txIntDisarmed = (s.chan k).txIntDisarmed) := setChan_txQuiet h k hc
  unfold dataRead
  dsimp only
  split
  · exact h
  · split
    · exact ite_txQuiet (kept (by rfl)) (trigger_txQuiet (kept (by rfl)) k .special fun _ => nofun)
    · exact ite_txQuiet (clear_txQuiet (kept (by rfl)) k .rx) (kept (by rfl))

/-! ### The line events -/

theorem latchExternal_txQuiet : TxQuiet ch p (latchExternal k s) := by
  have latched (v : Byte) := setChan_txQuiet h k (c := { s.chan k with extLatched := true, extSnap := v }) rfl
  exact ite_txQuiet h (ite_txQuiet (trigger_txQuiet (latched _) k .ext fun _ => nofun) (latched _))

theorem ctsEvent_txQuiet (l : Bool) : TxQuiet ch p (ctsEvent k l s) := by
  have moved := setChan_txQuiet h k (c := { s.chan k with ctsPin := l }) rfl
  have latched := ite_txQuiet (c := ((s.chan k).wr15 &&& 0x20#8 != 0x00#8) = true) (latchExternal_txQuiet moved k) moved
  exact ite_txQuiet moved (ite_txQuiet latched (txKick_txQuiet latched k))

theorem dcdEvent_txQuiet (l : Bool) : TxQuiet ch p (dcdEvent k l s) := by
  have moved := setChan_txQuiet h k (c := { s.chan k with dcdPin := l }) rfl
  exact ite_txQuiet moved (ite_txQuiet (latchExternal_txQuiet moved k) moved)

theorem lineEvents_txQuiet (l : Bool) : ∀ e ∈ lineEvents k l, TxQuiet ch p (e s) :=
  forall_lineEvents.mpr ⟨h, txClockEdge_txQuiet h k, rxClockEdge_txQuiet h k, setChan_txQuiet h k rfl, ctsEvent_txQuiet h k l,
    dcdEvent_txQuiet h k l, setChan_txQuiet h k rfl, setChan_txQuiet h k rfl⟩

/-! ### The register writes -/

theorem wr0Pointer_txQuiet (v : Byte) : TxQuiet ch p (wr0Pointer v s) :=
  ⟨by rw [wr0Pointer_chan]; exact h.disarmed, fun e => h.notRaised (by rwa [wr0Pointer_slot] at e)⟩

theorem commandPointHigh_txQuiet : TxQuiet ch p (commandPointHigh s) := by
  unfold commandPointHigh
  split
  · exact setCtl_txQuiet h rfl
  · exact h

theorem commandResetExtStatus_txQuiet : TxQuiet ch p (commandResetExtStatus k s) := by
  have cleared := clear_txQuiet h k .ext
  have latch (v : Byte) (l : Bool) := setChan_txQuiet cleared k
    (c := { (clear k .ext s).chan k with extSnap := v, extLatched := l }) rfl
  exact ite_txQuiet (ite_txQuiet (ite_txQuiet (trigger_txQuiet (latch _ true) k .ext fun _ => nofun) (latch _ true))
    (latch _ false)) cleared

theorem commandErrorReset_txQuiet : TxQuiet ch p (commandErrorReset k s) := by
  have freed := setChan_txQuiet h k
    (c := { s.chan k with errBits := 0#4, rxq := errorResetQueue (s.chan k), rxLocked := false }) rfl
  have cleared := clear_txQuiet freed k .rx
  exact ite_txQuiet (trigger_txQuiet cleared k .rx fun _ => nofun) cleared

theorem wr0Effects_txQuiet {c : State → State} (hc : c ∈ wr0Commands k) (v : Byte) : TxQuiet ch p (wr0Effects c v s) := by
  have pointed := wr0Pointer_txQuiet h v
  have commands : ∀ c ∈ wr0Commands k, TxQuiet ch p (c (wr0Pointer v s)) :=
    forall_wr0Commands.mpr ⟨pointed, commandPointHigh_txQuiet pointed, commandResetExtStatus_txQuiet pointed k, pointed,
      setChan_txQuiet pointed k rfl, setChan_disarmed_txQuiet (clear_txQuiet pointed k .tx) k fun _ => rfl,
      commandErrorReset_txQuiet pointed k, resetHighestIus_txQuiet pointed⟩
  rw [wr0Effects, wr0CrcReset_eq]
  exact commands c hc

/-- The register writes other than WR0, WR9 and the channel's own data register. -/
theorem regWrite_txQuiet {n : BitVec 4} (h0 : n ≠ 0#4) (h8 : k = ch → n ≠ 8#4) (h9 : n ≠ 9#4) (v : Byte) :
    TxQuiet ch p (regWrite k n v s) := by
  revert h0 h8 h9
  induction n using forall_reg <;> intro h0 h8 h9
  case h0 => exact absurd rfl h0
  case h2 => exact setCtl_txQuiet h rfl
  case h3 => exact setChan_txQuiet h k (by split <;> split <;> rfl)
  case h4 => exact ite_txQuiet h (setChan_txQuiet h k (by rw [rateUpdate_frame]))
  case h5 => exact ite_txQuiet h (txKick_txQuiet (setChan_txQuiet h k (by rw [wr5Rts_eq, wr5Txd_eq])) k)
  case h7 => exact setChan_txQuiet h k (by split <;> rfl)
  case h8 => exact dataWrite_txQuiet h k (fun same => absurd rfl (h8 same)) v
  case h9 => exact absurd rfl h9
  case h12 | h13 => exact setChan_txQuiet h k (by rw [rateUpdate_frame])
  case h14 => exact setChan_txQuiet h k (by rw [wr14Rate_txIntDisarmed, dpllCommand_eq])
  all_goals exact setChan_txQuiet h k rfl

theorem regRead_txQuiet (n : BitVec 4) : TxQuiet ch p (regRead k n s).2 := by
  obtain e | ⟨-, e⟩ | ⟨-, -, -, -, i, -, e⟩ := regRead_cases k n s <;> rw [e]
  · exact h
  · exact dataRead_txQuiet h k
  · exact acknowledge_txQuiet h i

theorem storeWr9_txQuiet (v : Byte) : TxQuiet ch p (storeWr9 v s) := setCtl_txQuiet h rfl

/-- The reset of a channel reaches no other record and makes no slot pending (R503). -/
theorem channelReset_txQuiet (other : k ≠ ch) : TxQuiet ch p (channelReset k s) := by
  obtain rfl := ChanId.eq_other_of_ne other
  refine ⟨by rw [channelReset_chan_other]; exact h.disarmed, fun e => h.notRaised ?_⟩
  rwa [channelReset_slot, if_neg (slotOf_other_notMem_channelSlots k .tx)] at e

/-! ### Every operation -/

theorem portState_txQuiet (data : Bool) : TxQuiet ch p (portState data s) :=
  ⟨by rw [portState_chan]; exact h.disarmed, fun e => h.notRaised (by rwa [portState_slot] at e)⟩

theorem Performed.txQuiet {i : Instr} {u : State} (hu : Performed s i u) (hw : ¬ IsDataWrite s ch i)
    (hr : ¬ ResetsChannel s ch i) : TxQuiet ch p u := by
  cases hu with
  | command hd ha hc => exact wr0Effects_txQuiet (portState_txQuiet h _) _ hc _
  | @write k n v data hd ha h0 h9 =>
    exact regWrite_txQuiet (portState_txQuiet h _) k h0 (fun same eight => hw ⟨v, by rw [ha, same, eight]⟩) h9 v
  | storeWr9 hd v => exact storeWr9_txQuiet (portState_txQuiet h _) v
  | @channelReset k data hd hk v =>
    exact channelReset_txQuiet (storeWr9_txQuiet (portState_txQuiet h data) v) k fun same => hr (same ▸ hk)
  | wr9HwReset data hh v => exact absurd (.inl hh) hr
  | read hd k n => exact regRead_txQuiet (portState_txQuiet h _) k n
  | event he => exact lineEvents_txQuiet h _ _ _ he
  | acknowledge => exact irqAcknowledge_txQuiet h
  | reset hh => exact absurd (.inl hh) hr

end TxQuiet

/-- Settles O60: `p` is that the slot was pending before the operation. -/
theorem disarmedTransmitInterruptStaysQuiet : Obligations.DisarmedTransmitInterruptStaysQuiet := by
  intro i s t ch hw hr h disarmed
  obtain ⟨u, r, hu, rfl⟩ := exec_performed h
  have before : TxQuiet ch ((s.slot (slotOf ch .tx)).ip = true) s := ⟨disarmed, id⟩
  obtain ⟨kept, notRaised⟩ := hu.txQuiet before hw hr
  rw [respond_chan, respond_slot]
  exact ⟨kept, notRaised⟩

end Sys2Proof.Machine
